-- ==== Sys2Proof/Word.lean ====
section
/-! DEFINITION. The two word sizes of CORE (spec 00_scope.md R5, R7): 8-bit data and 16-bit CPU addresses. -/
namespace Sys2Proof

/-- A `u8` of R7: register contents, memory cells, operand bytes. -/
abbrev Byte := BitVec 8

/-- A `u16` of R7: a CPU address, the program counter. -/
abbrev Addr := BitVec 16

end Sys2Proof
end

