-- ==== Sys2Proof/Machine/Bits.lean ====
section
/-! DEFINITION. The byte-order, field and extension helpers of R7. -/
namespace Sys2Proof.Machine

/-- `lo(w)` of R7. -/
def lo (w : Addr) : Byte := w.setWidth 8

/-- `hi(w)` of R7. -/
def hi (w : Addr) : Byte := (w >>> 8).setWidth 8

/-- `word(h, l)` of R7: the high byte above the low byte. -/
def word (h l : Byte) : Addr := h ++ l

/-- `sext_16(b)` of R7. -/
def sext16 (b : Byte) : Addr := b.signExtend 16

/-- `zext_16(b)` of R7. -/
def zext16 (b : Byte) : Addr := b.setWidth 16

/-- The byte that is 1 or 0 in bit 0, from a Boolean (R7: true is 1). -/
def flagByte (b : Bool) : Byte := if b then 1#8 else 0#8

/-- The field of `v` from bit `low` up, `w` bits wide: `v[low+w-1:low]` of R7. -/
def field (v : BitVec n) (low w : Nat) : BitVec w := v.extractLsb' low w

/-- `a` page-crosses to `b` when the two have different high bytes (R12). -/
def pageDiffers (a b : Addr) : Bool := hi a != hi b

end Sys2Proof.Machine
end

