-- ==== Sys2Proof/Config.lean ====
section
/-! DEFINITION. What is fixed for a machine: the constants of R5, the named parameters of R6 with the
defaults R6 gives them, and the two values the spec leaves OPEN (the system palette, the version of the
save-state blob). The parameters are plain data: State holds a `Params`, nothing writes it, and so a
statement about every state is a statement about every value of every parameter (log 1). -/
namespace Sys2Proof.Config

/-- `FB_W` of R5. -/
def fbWidth : Nat := 256
/-- `FB_H` of R5. -/
def fbHeight : Nat := 240
/-- Dots in a scanline, R5. -/
def dotsPerLine : Nat := 341
/-- Scanlines in a frame, R5. -/
def linesPerFrame : Nat := 262
/-- PPU cycles in a frame, R5. -/
def dotsPerFrame : Nat := 89342
/-- Bytes in one PRG bank, R5. -/
def prgBankBytes : Nat := 16384
/-- Bytes in one CHR bank, R5. -/
def chrBankBytes : Nat := 8192
/-- Bytes of the optional trainer between header and PRG data, R95. -/
def trainerBytes : Nat := 512
/-- Bytes of a cartridge header, R5. -/
def headerBytes : Nat := 16
/-- The shorter of the two OAM DMA stalls, R5. -/
def oamDmaStall : Nat := 513

/-- The twelve host buttons of R626. -/
inductive Button
  | up | down | left | right | face0 | face1 | face2 | face3 | shoulder0 | shoulder1 | start | select
deriving DecidableEq, Repr

/-- `PAD_MAP` of R6 and R626 as data: for each of the eight serial bits the host buttons that set it. -/
structure PadMap where
  bit0 : List Button
  bit1 : List Button
  bit2 : List Button
  bit3 : List Button
  bit4 : List Button
  bit5 : List Button
  bit6 : List Button
  bit7 : List Button
deriving DecidableEq, Repr

/-- `JAM_POLICY` of R6 and R321. -/
inductive JamPolicy
  | halt | nop
deriving DecidableEq, Repr

/-- The named parameters of R6, but for `SYSTEM_PALETTE` (`systemPalette` below) and `MAPPER_TABLE`
(`mapperTable` below). -/
structure Params where
  unmappedRead   : Byte
  sampleRate     : Nat
  cpuHz          : Nat
  xaaMagic       : Byte
  lxaMagic       : Byte
  jamPolicy      : JamPolicy
  nmiOnCtrlWrite : Bool
  dmcStallCycles : Nat
  padMap         : PadMap
deriving DecidableEq, Repr

/-- The default `PAD_MAP` of R626: A, B, Select, Start, Up, Down, Left, Right. -/
def PadMap.standard : PadMap :=
  { bit0 := [.face0], bit1 := [.face1], bit2 := [.select], bit3 := [.start]
    bit4 := [.up], bit5 := [.down], bit6 := [.left], bit7 := [.right] }

/-- The defaults of R6. -/
def Params.standard : Params :=
  { unmappedRead := 0x00#8, sampleRate := 44100, cpuHz := 1789773
    xaaMagic := 0xEE#8, lxaMagic := 0xEE#8, jamPolicy := .halt
    nmiOnCtrlWrite := false, dmcStallCycles := 4, padMap := PadMap.standard }

/-- `MAPPER_TABLE` of R6: the mapper ids the Console accepts. The model has the baseline variant alone. -/
def mapperTable : List Nat := [0]

/-- The red, green and blue bytes of a colour. -/
structure Rgb where
  r : Byte
  g : Byte
  b : Byte
deriving DecidableEq, Repr, Inhabited

/-- The 64 colours of `SYSTEM_PALETTE`, which R427 leaves open (alpha is 255 for every entry and is added
by `Pixel.rgba`). No body: no proof can see a colour (log 4). -/
opaque systemPalette : BitVec 6 → Rgb

/-- The version tag of a save-state blob, which R635 leaves open (log 5). -/
opaque stateVersion : Nat

end Sys2Proof.Config
end

