-- ==== Sys2Proof/Machine/State.lean ====
section
/-! DEFINITION. The state of CORE (10_state.md), one structure per unit under the spec's own names, its value at
construction, and the two reason types of a step. Every width is the one 10_state.md gives. -/
namespace Sys2Proof.Machine

open Sys2Proof.Config

/-- Cells by address, sparse: addresses strictly rising, no cell equal to what an unlisted address reads
as (`Store.wf` of Machine/Memory.lean). -/
abbrev Store (α : Type) := List (Nat × α)

/-- A memory of bytes: a `Store` whose unlisted addresses read 0, which is what R61 to R63 give every memory
of the machine at construction and at load. -/
abbrev Memory := List Host.Cell

/-- The CPU register file (R20), its six flag latches (R26), and its two other latches (R29, R30). -/
structure Cpu where
  a : Byte
  x : Byte
  y : Byte
  s : Byte
  pc : Addr
  c : Bool
  z : Bool
  i : Bool
  d : Bool
  v : Bool
  n : Bool
  nmiPending : Bool
  jammed : Bool
deriving DecidableEq, Repr

/-- The two mirroring modes of R90 and R95. -/
inductive Mirroring
  | horizontal | vertical
deriving DecidableEq, Repr

/-- The baseline Mapper (R33): the parsed header's counts and mirroring, PRG and CHR. With `chrBanks = 0` the
CHR store is the 8192 bytes of CHR RAM (R93). -/
structure FixedMapper where
  prgBanks : Nat
  prg : Memory
  chrBanks : Nat
  chr : Memory
  mirroring : Mirroring
deriving DecidableEq, Repr

/-- The tagged set of Mapper variants (R90, R114); the baseline is the only one in scope (R4 b). -/
inductive Mapper
  | fixed (m : FixedMapper)
deriving DecidableEq, Repr

/-- A pixel of a framebuffer (R40): opaque black, which every pixel is at construction (R63), or
`SYSTEM_PALETTE` of a 6-bit colour index (R427); `Pixel.rgba` of Machine/HostOps.lean gives its four bytes. -/
inductive Pixel
  | black
  | colour (c : BitVec 6)
deriving DecidableEq, Repr

/-- One slot of the sprite line buffer (R39). -/
structure SpriteSlot where
  pattern : BitVec 32
  x : Byte
  prio : Bool
  index : BitVec 6
deriving DecidableEq, Repr

/-- The PPU: memories (R35), latches (R36, R37), counters (R38), pipeline (R39), framebuffers (R40). -/
structure Ppu where
  vram : Memory
  palette : Store (BitVec 6)
  oam : Memory
  ctrl : Byte
  mask : Byte
  oamAddr : Byte
  vblank : Bool
  sprite0Hit : Bool
  spriteOverflow : Bool
  v : BitVec 15
  t : BitVec 15
  x : BitVec 3
  w : Bool
  readBuffer : Byte
  dot : Nat
  scanline : Nat
  frame : Nat
  ntLatch : Byte
  atLatch : BitVec 2
  patLo : Byte
  patHi : Byte
  bgQueue : BitVec 64
  sprCount : Nat
  spr : Vector SpriteSlot 8
  back : Store Pixel
  front : Store Pixel
deriving DecidableEq, Repr

/-- The envelope fields that the pulse and noise channels share (R41, R43): `env_start`, `env_div`,
`env_decay`. -/
structure Envelope where
  start : Bool
  div : BitVec 4
  decay : BitVec 4
deriving DecidableEq, Repr

/-- A pulse channel (R41). -/
structure Pulse where
  enabled : Bool
  duty : BitVec 2
  halt : Bool
  constant : Bool
  vol : BitVec 4
  env : Envelope
  sweepEn : Bool
  sweepPeriod : BitVec 3
  sweepNeg : Bool
  sweepShift : BitVec 3
  sweepReload : Bool
  sweepDiv : BitVec 3
  period : BitVec 11
  timer : BitVec 11
  seq : BitVec 3
  length : Byte
deriving DecidableEq, Repr

/-- The triangle channel (R42). -/
structure Triangle where
  enabled : Bool
  control : Bool
  linPeriod : BitVec 7
  lin : BitVec 7
  linReload : Bool
  period : BitVec 11
  timer : BitVec 11
  seq : BitVec 5
  length : Byte
deriving DecidableEq, Repr

/-- The noise channel (R43). -/
structure Noise where
  enabled : Bool
  halt : Bool
  constant : Bool
  vol : BitVec 4
  env : Envelope
  mode : Bool
  rate : BitVec 4
  timer : BitVec 12
  lfsr : BitVec 15
  length : Byte
deriving DecidableEq, Repr

/-- The delta-modulation channel (R44). -/
structure Dmc where
  irqEn : Bool
  loop : Bool
  rate : BitVec 4
  timer : BitVec 9
  level : BitVec 7
  sampleAddr : Addr
  sampleLen : BitVec 12
  curAddr : Addr
  bytesRemaining : BitVec 12
  buffer : Byte
  bufferFull : Bool
  shift : Byte
  bitsRemaining : Nat
  silence : Bool
  irqFlag : Bool
deriving DecidableEq, Repr

/-- The APU: five channels, frame sequencer and sample clock (R41 to R45). -/
structure Apu where
  pulse1 : Pulse
  pulse2 : Pulse
  tri : Triangle
  noise : Noise
  dmc : Dmc
  seqMode : Bool
  irqInhibit : Bool
  seqCycle : Nat
  frameIrq : Bool
  odd : Bool
  sampleAcc : Nat
  queue : List (BitVec 16)
deriving DecidableEq, Repr

/-- The Console's own state (R46). -/
structure Console where
  cycles : Nat
  frameTarget3 : Nat
  pendingStall : Nat
  dmaStall : Nat
  loaded : Bool
  pad : Byte
  padShift : Byte
  strobe : Bool
deriving DecidableEq, Repr

/-- The whole machine. `cfg` holds the parameters of R6 (log 1); `cpuReturn` and `consoleReturn` hold the counts
that the last `CPU.step` and the last `Console.step` returned (R131, R601; log 2). -/
structure State where
  cfg : Params
  cpu : Cpu
  ram : Memory
  mapper : Option Mapper
  ppu : Ppu
  apu : Apu
  console : Console
  cpuReturn : Nat
  consoleReturn : Nat
deriving DecidableEq, Repr

/-- Why a step faults: never. No instruction and no access of this hardware faults (R79, R700), so the type has no
constructor. -/
inductive Fault
deriving DecidableEq, Repr

/-- Why a step is refused. -/
inductive Refusal
  /-- Raised by an arm of `exec` whose instruction has no meaning yet; safe. No arm raises it now. -/
  | notModelled (mnemonic : String)
  /-- Raised by `step`, and by the host's reset, run_frame, save_state and load_state, when no cartridge has been loaded:
  R600 makes `loaded` a premise of them and gives no behaviour without it. Safe. -/
  | noCartridge
deriving DecidableEq, Repr

/-- The CPU at construction (R60). -/
def Cpu.init : Cpu :=
  { a := 0#8, x := 0#8, y := 0#8, s := 0xFD#8, pc := 0x0000#16
    c := false, z := false, i := true, d := false, v := false, n := false
    nmiPending := false, jammed := false }

/-- An empty slot of the sprite line buffer (R63). -/
def SpriteSlot.init : SpriteSlot := { pattern := 0#32, x := 0#8, prio := false, index := 0#6 }

/-- The PPU at construction (R63). -/
def Ppu.init : Ppu :=
  { vram := [], palette := [], oam := [], ctrl := 0#8, mask := 0#8, oamAddr := 0#8
    vblank := false, sprite0Hit := false, spriteOverflow := false
    v := 0#15, t := 0#15, x := 0#3, w := false, readBuffer := 0#8
    dot := 0, scanline := 0, frame := 0
    ntLatch := 0#8, atLatch := 0#2, patLo := 0#8, patHi := 0#8, bgQueue := 0#64
    sprCount := 0, spr := Vector.replicate 8 SpriteSlot.init, back := [], front := [] }

/-- An envelope at reset (R64). -/
def Envelope.init : Envelope := { start := false, div := 0#4, decay := 0#4 }

/-- A pulse channel at reset (R64). -/
def Pulse.init : Pulse :=
  { enabled := false, duty := 0#2, halt := false, constant := false, vol := 0#4, env := Envelope.init
    sweepEn := false, sweepPeriod := 0#3, sweepNeg := false, sweepShift := 0#3
    sweepReload := false, sweepDiv := 0#3, period := 0#11, timer := 0#11, seq := 0#3, length := 0#8 }

/-- The triangle channel at reset (R64). -/
def Triangle.init : Triangle :=
  { enabled := false, control := false, linPeriod := 0#7, lin := 0#7, linReload := false
    period := 0#11, timer := 0#11, seq := 0#5, length := 0#8 }

/-- The noise channel at reset (R64): the shift register holds 1. -/
def Noise.init : Noise :=
  { enabled := false, halt := false, constant := false, vol := 0#4, env := Envelope.init
    mode := false, rate := 0#4, timer := 0#12, lfsr := 1#15, length := 0#8 }

/-- The DMC at reset (R64). -/
def Dmc.init : Dmc :=
  { irqEn := false, loop := false, rate := 0#4, timer := 0#9, level := 0#7
    sampleAddr := 0xC000#16, sampleLen := 1#12, curAddr := 0#16, bytesRemaining := 0#12
    buffer := 0#8, bufferFull := false, shift := 0#8, bitsRemaining := 8
    silence := true, irqFlag := false }

/-- The APU at construction and after every reset (R64). -/
def Apu.init : Apu :=
  { pulse1 := Pulse.init, pulse2 := Pulse.init, tri := Triangle.init, noise := Noise.init, dmc := Dmc.init
    seqMode := false, irqInhibit := false, seqCycle := 0, frameIrq := false, odd := false
    sampleAcc := 0, queue := [] }

/-- The Console at construction (R65). -/
def Console.init : Console :=
  { cycles := 0, frameTarget3 := 0, pendingStall := 0, dmaStall := 0, loaded := false
    pad := 0#8, padShift := 0#8, strobe := false }

/-- The machine at construction (R60 to R65, R801), with the parameters at their defaults (R6): no cartridge, memory
with nothing listed. -/
def State.reset : State :=
  { cfg := Params.standard, cpu := Cpu.init, ram := [], mapper := none
    ppu := Ppu.init, apu := Apu.init, console := Console.init
    cpuReturn := 0, consoleReturn := 0 }

end Sys2Proof.Machine
end

