-- ==== Sys2Proof/Machine/ApuUnits.lean ====
section
/-! DEFINITION. The units of the APU (R509, R520 to R534): tables, timers, envelope, sweep, length and linear counters, frame
sequencer, mixer, sample clock. Everything here maps an `Apu` (or one channel) to its next value; only the DMC reader
needs the Bus and stands in Machine/ApuStep.lean. -/
namespace Sys2Proof.Machine

open Sys2Proof.Config

/-- `LENGTH` of R509. -/
def lengthTable : List Byte :=
  [10#8, 254#8, 20#8, 2#8, 40#8, 4#8, 80#8, 6#8, 160#8, 8#8, 60#8, 10#8, 14#8, 12#8, 26#8, 14#8,
   12#8, 16#8, 24#8, 18#8, 48#8, 20#8, 96#8, 22#8, 192#8, 24#8, 72#8, 26#8, 16#8, 28#8, 32#8, 30#8]

/-- The length that bits 7 to 3 of a register write select (R505 to R507). -/
def lengthOf (v : Byte) : Byte := lengthTable.getD (v >>> 3).toNat 0#8

/-- `DUTY` of R522. -/
def dutyTable : List (List Nat) :=
  [[0, 1, 0, 0, 0, 0, 0, 0], [0, 1, 1, 0, 0, 0, 0, 0], [0, 1, 1, 1, 1, 0, 0, 0], [1, 0, 0, 1, 1, 1, 1, 1]]

/-- `TRI` of R526. -/
def triangleTable : List Nat :=
  [15, 14, 13, 12, 11, 10, 9, 8, 7, 6, 5, 4, 3, 2, 1, 0, 0, 1, 2, 3, 4, 5, 6, 7, 8, 9, 10, 11, 12, 13, 14, 15]

/-- `NOISE_PERIOD` of R528. -/
def noisePeriod : List Nat := [4, 8, 16, 32, 64, 96, 128, 160, 202, 254, 380, 508, 762, 1016, 2034, 4068]

/-- `DMC_RATE` of R529. -/
def dmcRate : List Nat := [428, 380, 340, 320, 286, 254, 226, 214, 190, 160, 142, 128, 106, 84, 72, 54]

/-! ### Pulse channels -/

/-- `pulse_timer` of R521. -/
def Pulse.clockTimer (p : Pulse) : Pulse :=
  if p.timer = 0#11 then { p with timer := p.period, seq := p.seq + 1#3 } else { p with timer := p.timer - 1#11 }

/-- `sweep_target` of R522; `first` says that the channel is pulse1, which subtracts one more. -/
def Pulse.sweepTarget (first : Bool) (p : Pulse) : Nat :=
  let c := p.period.toNat >>> p.sweepShift.toNat
  if p.sweepNeg then p.period.toNat - c - (if first then 1 else 0) else p.period.toNat + c

/-- `sweep_mute` of R522. -/
def Pulse.sweepMute (first : Bool) (p : Pulse) : Bool :=
  decide (p.period.toNat < 8) || decide (0x7FF < p.sweepTarget first)

/-- `pulse_out` of R522. -/
def Pulse.out (first : Bool) (p : Pulse) : Nat :=
  if p.length = 0#8 ∨ (dutyTable.getD p.duty.toNat []).getD p.seq.toNat 0 = 0 ∨ p.sweepMute first = true then 0
  else if p.constant then p.vol.toNat else p.env.decay.toNat

/-- The envelope clock of R523, with the channel's halt flag and volume. -/
def Envelope.clock (halt : Bool) (vol : BitVec 4) (e : Envelope) : Envelope :=
  if e.start then { start := false, decay := 15#4, div := vol }
  else if e.div = 0#4 then
    { e with
      div := vol
      decay := if e.decay ≠ 0#4 then e.decay - 1#4 else if halt then 15#4 else e.decay }
  else { e with div := e.div - 1#4 }

/-- The first half of R524: the period moves to its target. -/
def Pulse.sweepPeriodStep (first : Bool) (p : Pulse) : Pulse :=
  if p.sweepDiv = 0#3 ∧ p.sweepEn = true ∧ p.sweepShift ≠ 0#3 ∧ p.sweepMute first = false then
    { p with period := BitVec.ofNat 11 (p.sweepTarget first) }
  else p

/-- The second half of R524: the divider. -/
def Pulse.sweepDivStep (p : Pulse) : Pulse :=
  if p.sweepDiv = 0#3 ∨ p.sweepReload = true then { p with sweepDiv := p.sweepPeriod, sweepReload := false }
  else { p with sweepDiv := p.sweepDiv - 1#3 }

/-- The sweep clock of R524. -/
def Pulse.clockSweep (first : Bool) (p : Pulse) : Pulse := (p.sweepPeriodStep first).sweepDivStep

/-- The length clock of R525. -/
def clockLength (halt : Bool) (length : Byte) : Byte :=
  if halt = false ∧ length ≠ 0#8 then length - 1#8 else length

/-! ### Triangle, noise, DMC output -/

/-- `tri_timer` of R526. -/
def Triangle.clockTimer (t : Triangle) : Triangle :=
  if t.timer = 0#11 then
    { t with
      timer := t.period
      seq := if t.length ≠ 0#8 ∧ t.lin ≠ 0#7 then t.seq + 1#5 else t.seq }
  else { t with timer := t.timer - 1#11 }

/-- `tri_out` of R526. -/
def Triangle.out (t : Triangle) : Nat := triangleTable.getD t.seq.toNat 0

/-- The linear counter clock of R527. -/
def Triangle.clockLinear (t : Triangle) : Triangle :=
  { t with
    lin := if t.linReload then t.linPeriod else if t.lin ≠ 0#7 then t.lin - 1#7 else t.lin
    linReload := t.linReload && t.control }

/-- The shift register after one clock (R528). -/
def Noise.shifted (n : Noise) : BitVec 15 :=
  let fb := n.lfsr.getLsbD 0 ^^ (if n.mode then n.lfsr.getLsbD 6 else n.lfsr.getLsbD 1)
  (n.lfsr >>> 1) ||| (if fb then 0x4000#15 else 0#15)

/-- `noise_timer` of R528. -/
def Noise.clockTimer (n : Noise) : Noise :=
  if n.timer = 0#12 then
    { n with timer := BitVec.ofNat 12 (noisePeriod.getD n.rate.toNat 0 / 2 - 1), lfsr := n.shifted }
  else { n with timer := n.timer - 1#12 }

/-- `noise_out` of R528. -/
def Noise.out (n : Noise) : Nat :=
  if n.lfsr.getLsbD 0 = true ∨ n.length = 0#8 then 0
  else if n.constant then n.vol.toNat else n.env.decay.toNat

/-- The level after one output bit (R529). -/
def Dmc.nextLevel (d : Dmc) : BitVec 7 :=
  if d.silence then d.level
  else if d.shift.getLsbD 0 then (if d.level.toNat ≤ 125 then d.level + 2#7 else d.level)
  else (if 2 ≤ d.level.toNat then d.level - 2#7 else d.level)

/-- The end of an output byte (R529): the next byte, or silence. -/
def Dmc.nextByte (d : Dmc) : Dmc :=
  if d.bufferFull then { d with bitsRemaining := 8, silence := false, shift := d.buffer, bufferFull := false }
  else { d with bitsRemaining := 8, silence := true }

/-- The output unit of R529. -/
def Dmc.clockOutput (d : Dmc) : Dmc :=
  let e := { d with level := d.nextLevel, shift := d.shift >>> 1, bitsRemaining := d.bitsRemaining - 1 }
  if e.bitsRemaining = 0 then e.nextByte else e

/-- `dmc_timer` of R529. -/
def Dmc.clockTimer (d : Dmc) : Dmc :=
  if d.timer ≠ 0#9 then { d with timer := d.timer - 1#9 }
  else { d with timer := BitVec.ofNat 9 (dmcRate.getD d.rate.toNat 0 / 2 - 1) }.clockOutput

/-! ### Frame sequencer -/

/-- What a quarter frame does to a pulse channel. -/
def Pulse.quarter (p : Pulse) : Pulse := { p with env := p.env.clock p.halt p.vol }

/-- What a quarter frame does to the noise channel. -/
def Noise.quarter (n : Noise) : Noise := { n with env := n.env.clock n.halt n.vol }

/-- `quarter_frame` of R532. -/
def Apu.quarterFrame (u : Apu) : Apu :=
  { u with
    pulse1 := u.pulse1.quarter
    pulse2 := u.pulse2.quarter
    noise := u.noise.quarter
    tri := u.tri.clockLinear }

/-- What a half frame does to a pulse channel. -/
def Pulse.half (first : Bool) (p : Pulse) : Pulse := { p with length := clockLength p.halt p.length }.clockSweep first

/-- `half_frame` of R532. -/
def Apu.halfFrame (u : Apu) : Apu :=
  { u with
    pulse1 := u.pulse1.half true
    pulse2 := u.pulse2.half false
    tri := { u.tri with length := clockLength u.tri.control u.tri.length }
    noise := { u.noise with length := clockLength u.noise.halt u.noise.length } }

/-- The row of R531's table for 4-step mode. -/
def Apu.sequence4 (u : Apu) : Apu :=
  match u.seqCycle with
  | 7457 => u.quarterFrame
  | 14913 => u.quarterFrame.halfFrame
  | 22371 => u.quarterFrame
  | 29829 => { u.quarterFrame.halfFrame with frameIrq := u.frameIrq || !u.irqInhibit }
  | 29830 => { u with seqCycle := 0 }
  | _ => u

/-- The row of R531's table for 5-step mode. -/
def Apu.sequence5 (u : Apu) : Apu :=
  match u.seqCycle with
  | 7457 => u.quarterFrame
  | 14913 => u.quarterFrame.halfFrame
  | 22371 => u.quarterFrame
  | 37281 => u.quarterFrame.halfFrame
  | 37282 => { u with seqCycle := 0 }
  | _ => u

/-- `sequencer` of R531. -/
def Apu.sequencer (u : Apu) : Apu :=
  let u := { u with seqCycle := u.seqCycle + 1 }
  if u.seqMode then u.sequence5 else u.sequence4

/-! ### Mixer and sample clock -/

/-- The exact rational `out` of R534 as a numerator and a denominator, from the sum of the two pulse outputs and
from t, n and d. -/
def mixRatio (pulses t n d : Nat) : Nat × Nat :=
  let pNum := 9588 * pulses
  let pDen := 100 * (8128 + 100 * pulses)
  let q := t * (12241 * 22638) + n * (8227 * 22638) + d * (8227 * 12241)
  let one := 8227 * 12241 * 22638
  let tNum := 15979 * q
  let tDen := 100 * (one + 100 * q)
  (pNum * tDen + tNum * pDen, pDen * tDen)

/-- The sample of R534 from the five channel outputs. -/
def mixSample (pulses t n d : Nat) : Nat :=
  let r := mixRatio pulses t n d
  32767 * r.1 / r.2

/-- `mix` of R534. -/
def Apu.mix (u : Apu) : BitVec 16 :=
  BitVec.ofNat 16 (mixSample (u.pulse1.out true + u.pulse2.out false) u.tri.out u.noise.out u.dmc.level.toNat)

/-- `sample_clock` of R533. -/
def Apu.sampleClock (cfg : Params) (u : Apu) : Apu :=
  let acc := u.sampleAcc + cfg.sampleRate
  if cfg.cpuHz ≤ acc then { u with sampleAcc := acc - cfg.cpuHz, queue := u.queue ++ [u.mix] }
  else { u with sampleAcc := acc }

/-- The timers of R520 and the change of `apu.odd`. -/
def Apu.clockTimers (u : Apu) : Apu :=
  let u := { u with tri := u.tri.clockTimer }
  let u := if u.odd then
      { u with
        pulse1 := u.pulse1.clockTimer
        pulse2 := u.pulse2.clockTimer
        noise := u.noise.clockTimer
        dmc := u.dmc.clockTimer }
    else u
  { u with odd := !u.odd }

end Sys2Proof.Machine
end

