-- ==== Sys2Proof/Machine/ApuRegs.lean ====
section
/-! DEFINITION. The registers of the APU (R501 to R513): writes of 0x4000 to 0x4013, 0x4015 and 0x4017, and the read of
0x4015. -/
namespace Sys2Proof.Machine

/-- R502. -/
def Pulse.writeControl (v : Byte) (p : Pulse) : Pulse :=
  { p with duty := field v 6 2, halt := v.getLsbD 5, constant := v.getLsbD 4, vol := field v 0 4 }

/-- R503. -/
def Pulse.writeSweep (v : Byte) (p : Pulse) : Pulse :=
  { p with
    sweepEn := v.getLsbD 7, sweepPeriod := field v 4 3, sweepNeg := v.getLsbD 3
    sweepShift := field v 0 3, sweepReload := true }

/-- An 11-bit period after its low eight bits are written (R504, R506). -/
def periodLow (v : Byte) (period : BitVec 11) : BitVec 11 := (period &&& 0x700#11) ||| v.setWidth 11

/-- An 11-bit period after its high three bits are written (R505, R506). -/
def periodHigh (v : Byte) (period : BitVec 11) : BitVec 11 :=
  (period &&& 0x0FF#11) ||| ((v &&& 0x07#8).setWidth 11 <<< 8)

/-- R504. -/
def Pulse.writePeriodLow (v : Byte) (p : Pulse) : Pulse := { p with period := periodLow v p.period }

/-- R505. -/
def Pulse.writeLength (v : Byte) (p : Pulse) : Pulse :=
  { p with
    period := periodHigh v p.period
    length := if p.enabled then lengthOf v else p.length
    seq := 0#3
    env := { p.env with start := true } }

/-- R506 at 0x4008. -/
def Triangle.writeControl (v : Byte) (t : Triangle) : Triangle :=
  { t with control := v.getLsbD 7, linPeriod := field v 0 7 }

/-- R506 at 0x400A. -/
def Triangle.writePeriodLow (v : Byte) (t : Triangle) : Triangle := { t with period := periodLow v t.period }

/-- R506 at 0x400B. -/
def Triangle.writeLength (v : Byte) (t : Triangle) : Triangle :=
  { t with
    period := periodHigh v t.period
    length := if t.enabled then lengthOf v else t.length
    linReload := true }

/-- R507 at 0x400C. -/
def Noise.writeControl (v : Byte) (n : Noise) : Noise :=
  { n with halt := v.getLsbD 5, constant := v.getLsbD 4, vol := field v 0 4 }

/-- R507 at 0x400E. -/
def Noise.writeRate (v : Byte) (n : Noise) : Noise := { n with mode := v.getLsbD 7, rate := field v 0 4 }

/-- R507 at 0x400F. -/
def Noise.writeLength (v : Byte) (n : Noise) : Noise :=
  { n with
    length := if n.enabled then lengthOf v else n.length
    env := { n.env with start := true } }

/-- R508 at 0x4010. -/
def Dmc.writeControl (v : Byte) (d : Dmc) : Dmc :=
  { d with
    irqEn := v.getLsbD 7, loop := v.getLsbD 6, rate := field v 0 4
    irqFlag := d.irqFlag && v.getLsbD 7 }

/-- R508 at 0x4011. -/
def Dmc.writeLevel (v : Byte) (d : Dmc) : Dmc := { d with level := field v 0 7 }

/-- R508 at 0x4012. -/
def Dmc.writeAddr (v : Byte) (d : Dmc) : Dmc := { d with sampleAddr := 0xC000#16 ||| (v.setWidth 16 <<< 6) }

/-- R508 at 0x4013. -/
def Dmc.writeLen (v : Byte) (d : Dmc) : Dmc := { d with sampleLen := (v.setWidth 12 <<< 4) ||| 1#12 }

/-- The DMC's part of R510. -/
def Dmc.writeEnable (on : Bool) (d : Dmc) : Dmc :=
  if !on then { d with irqFlag := false, bytesRemaining := 0#12 }
  else if d.bytesRemaining = 0#12 then
    { d with irqFlag := false, curAddr := d.sampleAddr, bytesRemaining := d.sampleLen }
  else { d with irqFlag := false }

/-- A pulse channel enabled or disabled (R510). -/
def Pulse.writeEnable (on : Bool) (p : Pulse) : Pulse :=
  { p with enabled := on, length := if on then p.length else 0#8 }

/-- The triangle enabled or disabled (R510). -/
def Triangle.writeEnable (on : Bool) (t : Triangle) : Triangle :=
  { t with enabled := on, length := if on then t.length else 0#8 }

/-- The noise channel enabled or disabled (R510). -/
def Noise.writeEnable (on : Bool) (n : Noise) : Noise :=
  { n with enabled := on, length := if on then n.length else 0#8 }

/-- A write of 0x4015 (R510). -/
def Apu.writeEnables (v : Byte) (u : Apu) : Apu :=
  { u with
    pulse1 := u.pulse1.writeEnable (v.getLsbD 0)
    pulse2 := u.pulse2.writeEnable (v.getLsbD 1)
    tri := u.tri.writeEnable (v.getLsbD 2)
    noise := u.noise.writeEnable (v.getLsbD 3)
    dmc := u.dmc.writeEnable (v.getLsbD 4) }

/-- A write of 0x4017 (R511). -/
def Apu.writeSequencer (v : Byte) (u : Apu) : Apu :=
  let u := { u with
    seqMode := v.getLsbD 7, irqInhibit := v.getLsbD 6
    frameIrq := u.frameIrq && !v.getLsbD 6, seqCycle := 0 }
  if v.getLsbD 7 then u.quarterFrame.halfFrame else u

/-- `APU.reg_write` of R501, by the address less 0x4000; every other address changes nothing (R513). -/
def apuRegWrite (offset : Nat) (v : Byte) (u : Apu) : Apu :=
  match offset with
  | 0x00 => { u with pulse1 := u.pulse1.writeControl v }
  | 0x01 => { u with pulse1 := u.pulse1.writeSweep v }
  | 0x02 => { u with pulse1 := u.pulse1.writePeriodLow v }
  | 0x03 => { u with pulse1 := u.pulse1.writeLength v }
  | 0x04 => { u with pulse2 := u.pulse2.writeControl v }
  | 0x05 => { u with pulse2 := u.pulse2.writeSweep v }
  | 0x06 => { u with pulse2 := u.pulse2.writePeriodLow v }
  | 0x07 => { u with pulse2 := u.pulse2.writeLength v }
  | 0x08 => { u with tri := u.tri.writeControl v }
  | 0x0A => { u with tri := u.tri.writePeriodLow v }
  | 0x0B => { u with tri := u.tri.writeLength v }
  | 0x0C => { u with noise := u.noise.writeControl v }
  | 0x0E => { u with noise := u.noise.writeRate v }
  | 0x0F => { u with noise := u.noise.writeLength v }
  | 0x10 => { u with dmc := u.dmc.writeControl v }
  | 0x11 => { u with dmc := u.dmc.writeLevel v }
  | 0x12 => { u with dmc := u.dmc.writeAddr v }
  | 0x13 => { u with dmc := u.dmc.writeLen v }
  | 0x15 => u.writeEnables v
  | 0x17 => u.writeSequencer v
  | _ => u

/-- The byte `APU.status_read` returns (R512). -/
def Apu.statusByte (u : Apu) : Byte :=
  flagByte (decide (u.pulse1.length ≠ 0#8))
    ||| (flagByte (decide (u.pulse2.length ≠ 0#8)) <<< 1)
    ||| (flagByte (decide (u.tri.length ≠ 0#8)) <<< 2)
    ||| (flagByte (decide (u.noise.length ≠ 0#8)) <<< 3)
    ||| (flagByte (decide (u.dmc.bytesRemaining ≠ 0#12)) <<< 4)
    ||| (flagByte u.frameIrq <<< 6)
    ||| (flagByte u.dmc.irqFlag <<< 7)

/-- `APU.status_read` of R512: the read clears the frame IRQ flag. -/
def apuStatusRead (u : Apu) : Byte × Apu := (u.statusByte, { u with frameIrq := false })

end Sys2Proof.Machine
end

