-- ==== Sys2Proof/Machine/Pad.lean ====
section
/-! DEFINITION. The controller port (R625 to R628). -/
namespace Sys2Proof.Machine

open Sys2Proof.Config

/-- The input record of R626: twelve Booleans, true when the button is held. -/
structure Input where
  up : Bool
  down : Bool
  left : Bool
  right : Bool
  face0 : Bool
  face1 : Bool
  face2 : Bool
  face3 : Bool
  shoulder0 : Bool
  shoulder1 : Bool
  start : Bool
  select : Bool
deriving DecidableEq, Repr

/-- No button held. -/
def Input.none : Input :=
  { up := false, down := false, left := false, right := false, face0 := false, face1 := false
    face2 := false, face3 := false, shoulder0 := false, shoulder1 := false, start := false, select := false }

/-- Whether a button is held. -/
def Input.held (input : Input) : Button → Bool
  | .up => input.up
  | .down => input.down
  | .left => input.left
  | .right => input.right
  | .face0 => input.face0
  | .face1 => input.face1
  | .face2 => input.face2
  | .face3 => input.face3
  | .shoulder0 => input.shoulder0
  | .shoulder1 => input.shoulder1
  | .start => input.start
  | .select => input.select

/-- `encode` of R626 under a `PAD_MAP`: bit k is set when one of the buttons the map gives it is held. -/
def padEncode (map : PadMap) (input : Input) : Byte :=
  let bit := fun (buttons : List Button) => flagByte (buttons.any input.held)
  bit map.bit0 ||| (bit map.bit1 <<< 1) ||| (bit map.bit2 <<< 2) ||| (bit map.bit3 <<< 3)
    ||| (bit map.bit4 <<< 4) ||| (bit map.bit5 <<< 5) ||| (bit map.bit6 <<< 6) ||| (bit map.bit7 <<< 7)

/-- `Console.pad_strobe` of R627. -/
def Console.padStrobe (v : Byte) (c : Console) : Console :=
  { c with strobe := v.getLsbD 0, padShift := if v.getLsbD 0 then c.pad else c.padShift }

/-- `Console.pad_read` of R628. -/
def Console.padRead (c : Console) : Byte × Console :=
  if c.strobe then (c.pad &&& 0x01#8, c)
  else (c.padShift &&& 0x01#8, { c with padShift := (c.padShift >>> 1) ||| 0x80#8 })

end Sys2Proof.Machine
end

