-- ==== Sys2Proof/Machine/Memory.lean ====
section
/-! DEFINITION. Reading and writing a sparse store in its one canonical form: addresses strictly rising, all below the
memory's size, and no listed cell equal to what an unlisted address reads as. -/
namespace Sys2Proof.Machine

/-- The cell at address `a`; an unlisted address reads `d`. -/
def Store.read (d : α) : Store α → Nat → α
  | [], _ => d
  | (k, v) :: m, a => if a < k then d else if a = k then v else Store.read d m a

/-- The store after `v` is written at `a`; writing `d` removes the entry. -/
def Store.write [DecidableEq α] (d : α) : Store α → Nat → α → Store α
  | [], a, v => if v = d then [] else [(a, v)]
  | (k, w) :: m, a, v =>
    if a < k then (if v = d then (k, w) :: m else (a, v) :: (k, w) :: m)
    else if a = k then (if v = d then m else (a, v) :: m)
    else (k, w) :: Store.write d m a v

/-- Canonical form from address `low` up to the size. -/
def Store.wfFrom [DecidableEq α] (d : α) (size : Nat) : Nat → Store α → Bool
  | _, [] => true
  | low, (k, v) :: m => decide (low ≤ k) && decide (k < size) && decide (v ≠ d) && Store.wfFrom d size (k + 1) m

/-- The canonical form of a store of `size` cells whose unlisted cells read `d`. -/
def Store.wf [DecidableEq α] (d : α) (size : Nat) (m : Store α) : Bool := Store.wfFrom d size 0 m

/-- What a byte of memory that nothing has written reads as: 0, the contents R61 to R63 give at construction. -/
def Memory.unwritten : Byte := 0#8

/-- One byte of a memory. -/
def Memory.read (m : Memory) (a : Nat) : Byte := Store.read Memory.unwritten m a

/-- A memory after one byte is written. -/
def Memory.write (m : Memory) (a : Nat) (v : Byte) : Memory := Store.write Memory.unwritten m a v

/-- The canonical form of a memory of `size` bytes. -/
def Memory.wf (size : Nat) (m : Memory) : Bool := Store.wf Memory.unwritten size m

/-- A list of bytes laid out from address `base` on, in canonical form. -/
def Memory.ofBytes (base : Nat) : List Byte → Memory
  | [] => []
  | b :: bs => if b = Memory.unwritten then Memory.ofBytes (base + 1) bs else (base, b) :: Memory.ofBytes (base + 1) bs

end Sys2Proof.Machine
end

