-- ==== Sys2Proof/Machine/Mapper.lean ====
section
/-! DEFINITION. The six functions of the Mapper interface (R90) for the baseline variant (R91 to R94). The Bus has `none`
until a cartridge is loaded: nothing backs a CPU address then (R76), and what the other functions answer for `none` is the
model's choice (log 3). A new variant is a constructor of `Mapper` and an arm in each function here. -/
namespace Sys2Proof.Machine

open Sys2Proof.Config

/-- `prg_len` of R33. -/
def FixedMapper.prgLen (m : FixedMapper) : Nat := prgBankBytes * m.prgBanks

/-- `cpu_read` (R91): PRG from 0x8000 on, modulo its length; nothing below. -/
def mapperCpuRead (unmapped : Byte) (mapper : Option Mapper) (a : Addr) : Byte :=
  match mapper with
  | none => unmapped
  | some (.fixed m) => if 0x8000 ≤ a.toNat then m.prg.read ((a.toNat - 0x8000) % m.prgLen) else unmapped

/-- `cpu_write` (R92): the baseline ignores it. Without a Mapper it is ignored (DESIGN CHOICE, log 3). -/
def mapperCpuWrite (mapper : Option Mapper) (_a : Addr) (_v : Byte) : Option Mapper :=
  match mapper with
  | none => none
  | some (.fixed m) => some (.fixed m)

/-- `ppu_read` for 0x0000 to 0x1FFF (R93). Without a Mapper it reads `UNMAPPED_READ` (DESIGN CHOICE, log 3). -/
def mapperPpuRead (unmapped : Byte) (mapper : Option Mapper) (a : Nat) : Byte :=
  match mapper with
  | none => unmapped
  | some (.fixed m) => m.chr.read a

/-- `ppu_write` for 0x0000 to 0x1FFF (R93): CHR RAM takes it, CHR ROM does not. Without a Mapper it is
ignored (DESIGN CHOICE, log 3). -/
def mapperPpuWrite (mapper : Option Mapper) (a : Nat) (v : Byte) : Option Mapper :=
  match mapper with
  | none => none
  | some (.fixed m) => if m.chrBanks = 0 then some (.fixed { m with chr := m.chr.write a v }) else some (.fixed m)

/-- `mirroring` (R94). Without a Mapper it is horizontal (DESIGN CHOICE, log 3). -/
def mapperMirroring (mapper : Option Mapper) : Mirroring :=
  match mapper with
  | none => .horizontal
  | some (.fixed m) => m.mirroring

/-- `irq` (R94): the baseline never asserts it. Without a Mapper it is not asserted (DESIGN CHOICE, log 3: R33 and R600
give it no meaning then). -/
def mapperIrq (mapper : Option Mapper) : Bool :=
  match mapper with
  | none => false
  | some (.fixed _) => false

end Sys2Proof.Machine
end

