-- ==== Sys2Proof/Machine/PpuMemory.lean ====
section
/-! DEFINITION. The PPU's own address space (R100 to R104) and the PPU registers the CPU reaches through the Bus
(R401 to R412). -/
namespace Sys2Proof.Machine

open Sys2Proof.Config

/-- `nt_index` of R102. -/
def ntIndex (mirroring : Mirroring) (a : BitVec 14) : Nat :=
  let folded := a.toNat % 0x1000
  let table := folded / 0x400
  let phys := match mirroring with
    | .horizontal => table / 2
    | .vertical => table % 2
  phys * 0x400 + folded % 0x400

/-- `pal_index` of R103. -/
def palIndex (a : BitVec 14) : Nat :=
  let i := a.toNat % 0x20
  if 16 ≤ i ∧ i % 4 = 0 then i - 16 else i

/-- `PpuRead` of R100. -/
def ppuRead (unmapped : Byte) (mapper : Option Mapper) (p : Ppu) (a : BitVec 14) : Byte :=
  if a.toNat ≤ 0x1FFF then mapperPpuRead unmapped mapper a.toNat
  else if a.toNat ≤ 0x3EFF then p.vram.read (ntIndex (mapperMirroring mapper) a)
  else (Store.read 0#6 p.palette (palIndex a)).setWidth 8

/-- `PpuWrite` of R101. -/
def ppuWrite (a : BitVec 14) (v : Byte) (s : State) : State :=
  if a.toNat ≤ 0x1FFF then { s with mapper := mapperPpuWrite s.mapper a.toNat v }
  else if a.toNat ≤ 0x3EFF then
    { s with ppu := { s.ppu with vram := s.ppu.vram.write (ntIndex (mapperMirroring s.mapper) a) v } }
  else { s with ppu := { s.ppu with palette := Store.write 0#6 s.ppu.palette (palIndex a) (v.setWidth 6) } }

/-- The address of a PPUDATA access: `ppu.v & 0x3FFF` (R411, R412). -/
def Ppu.dataAddr (p : Ppu) : BitVec 14 := p.v.setWidth 14

/-- R410: the increment after every PPUDATA access. -/
def Ppu.incrementAddr (p : Ppu) : Ppu := { p with v := p.v + (if p.ctrl.getLsbD 2 then 32#15 else 1#15) }

/-- The byte a PPUSTATUS read returns (R404). -/
def Ppu.statusByte (p : Ppu) : Byte :=
  (flagByte p.vblank <<< 7) ||| (flagByte p.sprite0Hit <<< 6) ||| (flagByte p.spriteOverflow <<< 5)

/-- A read of PPUSTATUS (R404): vblank and the write toggle are cleared. -/
def ppuStatusRead (s : State) : Byte × State :=
  (s.ppu.statusByte, { s with ppu := { s.ppu with vblank := false, w := false } })

/-- A read of PPUDATA (R411): buffered below the palette, direct in it. -/
def ppuDataRead (s : State) : Byte × State :=
  let a := s.ppu.dataAddr
  let under := if a.toNat < 0x3F00 then a else a - 0x1000#14
  let r := if a.toNat < 0x3F00 then s.ppu.readBuffer else ppuRead s.cfg.unmappedRead s.mapper s.ppu a
  let p := { s.ppu with readBuffer := ppuRead s.cfg.unmappedRead s.mapper s.ppu under }
  (r, { s with ppu := p.incrementAddr })

/-- `PPU.reg_read` of R401 for register `r`. -/
def ppuRegRead (r : BitVec 3) (s : State) : Byte × State :=
  match r.toNat with
  | 2 => ppuStatusRead s
  | 4 => (s.ppu.oam.read s.ppu.oamAddr.toNat, s)
  | 7 => ppuDataRead s
  | _ => (s.cfg.unmappedRead, s)

/-- A write of PPUCTRL (R402), with the optional NMI of `NMI_ON_CTRL_WRITE`. -/
def ppuCtrlWrite (v : Byte) (s : State) : State :=
  let raises := s.cfg.nmiOnCtrlWrite && !s.ppu.ctrl.getLsbD 7 && v.getLsbD 7 && s.ppu.vblank
  { s with
    ppu := { s.ppu with
      ctrl := v
      t := (s.ppu.t &&& 0x73FF#15) ||| ((v &&& 0x03#8).setWidth 15 <<< 10) }
    cpu := { s.cpu with nmiPending := s.cpu.nmiPending || raises } }

/-- A write of OAMDATA (R406), also the write the OAM DMA performs (R620). -/
def Ppu.oamDataWrite (v : Byte) (p : Ppu) : Ppu :=
  { p with oam := p.oam.write p.oamAddr.toNat v, oamAddr := p.oamAddr + 1#8 }

/-- A write of PPUSCROLL (R407). -/
def Ppu.scrollWrite (v : Byte) (p : Ppu) : Ppu :=
  if p.w then
    { p with
      t := (p.t &&& 0x0C1F#15) ||| ((v &&& 0x07#8).setWidth 15 <<< 12) ||| ((v >>> 3).setWidth 15 <<< 5)
      w := false }
  else
    { p with t := (p.t &&& 0x7FE0#15) ||| (v >>> 3).setWidth 15, x := v.setWidth 3, w := true }

/-- A write of PPUADDR (R408): high byte first, then the low byte and the copy to `v`. -/
def Ppu.addrWrite (v : Byte) (p : Ppu) : Ppu :=
  if p.w then
    let t := (p.t &&& 0x7F00#15) ||| v.setWidth 15
    { p with t := t, v := t, w := false }
  else
    { p with t := (p.t &&& 0x00FF#15) ||| ((v &&& 0x3F#8).setWidth 15 <<< 8), w := true }

/-- A write of PPUDATA (R412). -/
def ppuDataWrite (v : Byte) (s : State) : State :=
  let s := ppuWrite s.ppu.dataAddr v s
  { s with ppu := s.ppu.incrementAddr }

/-- `PPU.reg_write` of R401 for register `r`; a write of PPUSTATUS changes nothing (R409). -/
def ppuRegWrite (r : BitVec 3) (v : Byte) (s : State) : State :=
  match r.toNat with
  | 0 => ppuCtrlWrite v s
  | 1 => { s with ppu := { s.ppu with mask := v } }
  | 2 => s
  | 3 => { s with ppu := { s.ppu with oamAddr := v } }
  | 4 => { s with ppu := s.ppu.oamDataWrite v }
  | 5 => { s with ppu := s.ppu.scrollWrite v }
  | 6 => { s with ppu := s.ppu.addrWrite v }
  | _ => ppuDataWrite v s

end Sys2Proof.Machine
end

