-- ==== Sys2Proof/Machine/Bus.lean ====
section
/-! DEFINITION. The Bus: `MemRead` and `MemWrite` of the CPU address space (R70 to R79), one byte each, and the OAM DMA that
a write of 0x4014 runs (R620). Both are total: no access faults (R79). -/
namespace Sys2Proof.Machine

open Sys2Proof.Config

/-- `bus.ram[addr & 0x07FF]` (R72): the cell of work RAM behind an address below 0x2000. -/
def ramIndex (a : Addr) : Nat := a.toNat % 0x800

/-- The PPU register behind an address in 0x2000 to 0x3FFF (R73). -/
def ppuRegister (a : Addr) : BitVec 3 := a.setWidth 3

/-- `Bus.read` of R70, which is `MemRead(addr, 1)`: the byte, and the state after the read's side effects (R75). -/
def memRead (a : Addr) (s : State) : Byte × State :=
  if a.toNat ≤ 0x1FFF then (s.ram.read (ramIndex a), s)
  else if a.toNat ≤ 0x3FFF then ppuRegRead (ppuRegister a) s
  else if a.toNat = 0x4015 then ((apuStatusRead s.apu).1, { s with apu := (apuStatusRead s.apu).2 })
  else if a.toNat = 0x4016 then (s.console.padRead.1, { s with console := s.console.padRead.2 })
  else if a.toNat = 0x4017 then (0x00#8, s)
  else if a.toNat ≤ 0x401F then (s.cfg.unmappedRead, s)
  else (mapperCpuRead s.cfg.unmappedRead s.mapper a, s)

/-- `n` bytes of the OAM DMA's copy from offset `i` of the page on (R620). -/
def oamDmaFrom (page : Byte) : Nat → Nat → State → State
  | 0, _, s => s
  | n + 1, i, s =>
    let r := memRead (word page (BitVec.ofNat 8 i)) s
    oamDmaFrom page n (i + 1) { r.2 with ppu := r.2.ppu.oamDataWrite r.1 }

/-- `Console.oam_dma` of R620: 256 bytes, then the stall marker. -/
def oamDma (page : Byte) (s : State) : State :=
  let s := oamDmaFrom page 256 0 s
  { s with console := { s.console with dmaStall := oamDmaStall } }

/-- `Bus.write` of R71, which is `MemWrite(addr, 1, v)`. -/
def memWrite (a : Addr) (v : Byte) (s : State) : State :=
  if a.toNat ≤ 0x1FFF then { s with ram := s.ram.write (ramIndex a) v }
  else if a.toNat ≤ 0x3FFF then ppuRegWrite (ppuRegister a) v s
  else if a.toNat = 0x4014 then oamDma v s
  else if a.toNat = 0x4016 then { s with console := s.console.padStrobe v }
  else if a.toNat ≤ 0x4013 ∨ a.toNat = 0x4015 ∨ a.toNat = 0x4017 then
    { s with apu := apuRegWrite (a.toNat - 0x4000) v s.apu }
  else if a.toNat ≤ 0x401F then s
  else { s with mapper := mapperCpuWrite s.mapper a v }

/-- `irq_line` of R31, a level computed when it is polled. -/
def irqLine (s : State) : Bool := s.apu.frameIrq || s.apu.dmc.irqFlag || mapperIrq s.mapper

end Sys2Proof.Machine
end

