-- ==== Sys2Proof/Machine/ApuStep.lean ====
section
/-! DEFINITION. One CPU cycle of the APU (R520), with the DMC reader, the one part of the APU that reads the Bus (R530). -/
namespace Sys2Proof.Machine

/-- The DMC after a sample byte arrived (R530). -/
def Dmc.receive (b : Byte) (d : Dmc) : Dmc :=
  let d := { d with
    buffer := b, bufferFull := true
    curAddr := if d.curAddr = 0xFFFF#16 then 0x8000#16 else d.curAddr + 1#16
    bytesRemaining := d.bytesRemaining - 1#12 }
  if d.bytesRemaining = 0#12 then
    if d.loop then { d with curAddr := d.sampleAddr, bytesRemaining := d.sampleLen }
    else if d.irqEn then { d with irqFlag := true }
    else d
  else d

/-- The DMC wants a sample byte (R530). -/
def Dmc.wantsByte (d : Dmc) : Bool := !d.bufferFull && decide (d.bytesRemaining ≠ 0#12)

/-- `dmc_reader` of R530: the fetch is charged to the next `Console.step`. -/
def dmcReader (s : State) : State :=
  if s.apu.dmc.wantsByte then
    let r := memRead s.apu.dmc.curAddr s
    { r.2 with
      apu := { r.2.apu with dmc := r.2.apu.dmc.receive r.1 }
      console := { r.2.console with pendingStall := r.2.console.pendingStall + r.2.cfg.dmcStallCycles } }
  else s

/-- `APU.step` of R520. -/
def apuStep (s : State) : State :=
  let s := dmcReader { s with apu := s.apu.clockTimers }
  { s with apu := s.apu.sequencer.sampleClock s.cfg }

/-- `n` calls of `APU.step` in a row. -/
def apuRun : Nat → State → State
  | 0, s => s
  | n + 1, s => apuRun n (apuStep s)

end Sys2Proof.Machine
end

