-- ==== Sys2Proof/Syntax.lean ====
section
/-! DEFINITION. The instructions of CORE as terms: the 256 rows of spec/opcode_table.json (30_encoding.md
R146), one constructor of `Instr` for each pair of mnemonic and addressing mode. Where several rows
share both and differ in the opcode byte alone (the two ANC bytes, the unofficial NOPs of a mode, the
twelve JAM bytes) the constructor's first field says which row it is (log 7). An operand is the operand
byte, or the 16-bit word its two operand bytes make (low byte first, R130). -/
namespace Sys2Proof

/-- The 77 mnemonics of spec/opcode_table.json. -/
inductive Mnemonic
  | adc | alr | anc | and | arr | asl | axs | bcc | bcs | beq | bit | bmi
  | bne | bpl | brk | bvc | bvs | clc | cld | cli | clv | cmp | cpx | cpy
  | dcp | dec | dex | dey | eor | inc | inx | iny | isc | jam | jmp | jsr
  | las | lax | lda | ldx | ldy | lsr | lxa | nop | ora | pha | php | pla
  | plp | rla | rol | ror | rra | rti | rts | sax | sbc | sec | sed | sei
  | sha | shx | shy | slo | sre | sta | stx | sty | tas | tax | tay | tsx
  | txa | txs | tya | usbc | xaa
deriving DecidableEq, Repr

/-- The thirteen addressing modes of R132 to R144, each with the operand its bytes hold. -/
inductive Mode
  /-- IMP, R132. -/
  | imp
  /-- ACC, R133. -/
  | acc
  /-- IMM, R134: the operand byte. -/
  | imm (v : Byte)
  /-- ZP, R135. -/
  | zp (z : Byte)
  /-- ZPX, R136. -/
  | zpx (z : Byte)
  /-- ZPY, R137. -/
  | zpy (z : Byte)
  /-- ABS, R138. -/
  | abs (a : Addr)
  /-- ABX, R139. -/
  | abx (a : Addr)
  /-- ABY, R140. -/
  | aby (a : Addr)
  /-- IND, R141. -/
  | ind (a : Addr)
  /-- IZX, R142. -/
  | izx (z : Byte)
  /-- IZY, R143. -/
  | izy (z : Byte)
  /-- REL, R144: the signed offset byte. -/
  | rel (off : Byte)
deriving DecidableEq, Repr

/-- The opcode bytes of JAM IMP (R147). -/
inductive JamByte
  | b02 | b12 | b22 | b32 | b42 | b52 | b62 | b72 | b92 | bB2 | bD2 | bF2
deriving DecidableEq, Repr

/-- The opcode bytes of NOP ZP (R147). -/
inductive NopZpByte
  | b04 | b44 | b64
deriving DecidableEq, Repr

/-- The opcode bytes of ANC IMM (R147). -/
inductive AncImmByte
  | b0B | b2B
deriving DecidableEq, Repr

/-- The opcode bytes of NOP ZPX (R147). -/
inductive NopZpxByte
  | b14 | b34 | b54 | b74 | bD4 | bF4
deriving DecidableEq, Repr

/-- The opcode bytes of NOP IMP (R147). -/
inductive NopImpByte
  | b1A | b3A | b5A | b7A | bDA | bFA
deriving DecidableEq, Repr

/-- The opcode bytes of NOP ABX (R147). -/
inductive NopAbxByte
  | b1C | b3C | b5C | b7C | bDC | bFC
deriving DecidableEq, Repr

/-- The opcode bytes of NOP IMM (R147). -/
inductive NopImmByte
  | b80 | b82 | b89 | bC2 | bE2
deriving DecidableEq, Repr

/-- The instructions; each docstring gives opcode byte, mnemonic, mode and rule. -/
inductive Instr
  /-- 0x00 BRK IMP, R275. -/
  | brk
  /-- 0x01 ORA IZX, R234. -/
  | oraIzx (z : Byte)
  /-- 0x02 0x12 0x22 0x32 0x42 0x52 0x62 0x72 0x92 0xB2 0xD2 0xF2 JAM IMP, R321. -/
  | jam (k : JamByte)
  /-- 0x03 SLO IZX, R301. -/
  | sloIzx (z : Byte)
  /-- 0x04 0x44 0x64 NOP ZP, R322. -/
  | nopZp (k : NopZpByte) (z : Byte)
  /-- 0x05 ORA ZP, R234. -/
  | oraZp (z : Byte)
  /-- 0x06 ASL ZP, R251. -/
  | aslZp (z : Byte)
  /-- 0x07 SLO ZP, R301. -/
  | sloZp (z : Byte)
  /-- 0x08 PHP IMP, R222. -/
  | php
  /-- 0x09 ORA IMM, R234. -/
  | oraImm (v : Byte)
  /-- 0x0A ASL ACC, R251. -/
  | aslAcc
  /-- 0x0B 0x2B ANC IMM, R309. -/
  | ancImm (k : AncImmByte) (v : Byte)
  /-- 0x0C NOP ABS, R322. -/
  | nopAbs (a : Addr)
  /-- 0x0D ORA ABS, R234. -/
  | oraAbs (a : Addr)
  /-- 0x0E ASL ABS, R251. -/
  | aslAbs (a : Addr)
  /-- 0x0F SLO ABS, R301. -/
  | sloAbs (a : Addr)
  /-- 0x10 BPL REL, R277. -/
  | bpl (off : Byte)
  /-- 0x11 ORA IZY, R234. -/
  | oraIzy (z : Byte)
  /-- 0x13 SLO IZY, R301. -/
  | sloIzy (z : Byte)
  /-- 0x14 0x34 0x54 0x74 0xD4 0xF4 NOP ZPX, R322. -/
  | nopZpx (k : NopZpxByte) (z : Byte)
  /-- 0x15 ORA ZPX, R234. -/
  | oraZpx (z : Byte)
  /-- 0x16 ASL ZPX, R251. -/
  | aslZpx (z : Byte)
  /-- 0x17 SLO ZPX, R301. -/
  | sloZpx (z : Byte)
  /-- 0x18 CLC IMP, R290. -/
  | clc
  /-- 0x19 ORA ABY, R234. -/
  | oraAby (a : Addr)
  /-- 0x1A 0x3A 0x5A 0x7A 0xDA 0xFA NOP IMP, R322. -/
  | nopImp (k : NopImpByte)
  /-- 0x1B SLO ABY, R301. -/
  | sloAby (a : Addr)
  /-- 0x1C 0x3C 0x5C 0x7C 0xDC 0xFC NOP ABX, R322. -/
  | nopAbx (k : NopAbxByte) (a : Addr)
  /-- 0x1D ORA ABX, R234. -/
  | oraAbx (a : Addr)
  /-- 0x1E ASL ABX, R251. -/
  | aslAbx (a : Addr)
  /-- 0x1F SLO ABX, R301. -/
  | sloAbx (a : Addr)
  /-- 0x20 JSR ABS, R272. -/
  | jsrAbs (a : Addr)
  /-- 0x21 AND IZX, R233. -/
  | andIzx (z : Byte)
  /-- 0x23 RLA IZX, R302. -/
  | rlaIzx (z : Byte)
  /-- 0x24 BIT ZP, R239. -/
  | bitZp (z : Byte)
  /-- 0x25 AND ZP, R233. -/
  | andZp (z : Byte)
  /-- 0x26 ROL ZP, R253. -/
  | rolZp (z : Byte)
  /-- 0x27 RLA ZP, R302. -/
  | rlaZp (z : Byte)
  /-- 0x28 PLP IMP, R224. -/
  | plp
  /-- 0x29 AND IMM, R233. -/
  | andImm (v : Byte)
  /-- 0x2A ROL ACC, R253. -/
  | rolAcc
  /-- 0x2C BIT ABS, R239. -/
  | bitAbs (a : Addr)
  /-- 0x2D AND ABS, R233. -/
  | andAbs (a : Addr)
  /-- 0x2E ROL ABS, R253. -/
  | rolAbs (a : Addr)
  /-- 0x2F RLA ABS, R302. -/
  | rlaAbs (a : Addr)
  /-- 0x30 BMI REL, R278. -/
  | bmi (off : Byte)
  /-- 0x31 AND IZY, R233. -/
  | andIzy (z : Byte)
  /-- 0x33 RLA IZY, R302. -/
  | rlaIzy (z : Byte)
  /-- 0x35 AND ZPX, R233. -/
  | andZpx (z : Byte)
  /-- 0x36 ROL ZPX, R253. -/
  | rolZpx (z : Byte)
  /-- 0x37 RLA ZPX, R302. -/
  | rlaZpx (z : Byte)
  /-- 0x38 SEC IMP, R291. -/
  | sec
  /-- 0x39 AND ABY, R233. -/
  | andAby (a : Addr)
  /-- 0x3B RLA ABY, R302. -/
  | rlaAby (a : Addr)
  /-- 0x3D AND ABX, R233. -/
  | andAbx (a : Addr)
  /-- 0x3E ROL ABX, R253. -/
  | rolAbx (a : Addr)
  /-- 0x3F RLA ABX, R302. -/
  | rlaAbx (a : Addr)
  /-- 0x40 RTI IMP, R274. -/
  | rti
  /-- 0x41 EOR IZX, R235. -/
  | eorIzx (z : Byte)
  /-- 0x43 SRE IZX, R303. -/
  | sreIzx (z : Byte)
  /-- 0x45 EOR ZP, R235. -/
  | eorZp (z : Byte)
  /-- 0x46 LSR ZP, R252. -/
  | lsrZp (z : Byte)
  /-- 0x47 SRE ZP, R303. -/
  | sreZp (z : Byte)
  /-- 0x48 PHA IMP, R221. -/
  | pha
  /-- 0x49 EOR IMM, R235. -/
  | eorImm (v : Byte)
  /-- 0x4A LSR ACC, R252. -/
  | lsrAcc
  /-- 0x4B ALR IMM, R310. -/
  | alrImm (v : Byte)
  /-- 0x4C JMP ABS, R271. -/
  | jmpAbs (a : Addr)
  /-- 0x4D EOR ABS, R235. -/
  | eorAbs (a : Addr)
  /-- 0x4E LSR ABS, R252. -/
  | lsrAbs (a : Addr)
  /-- 0x4F SRE ABS, R303. -/
  | sreAbs (a : Addr)
  /-- 0x50 BVC REL, R279. -/
  | bvc (off : Byte)
  /-- 0x51 EOR IZY, R235. -/
  | eorIzy (z : Byte)
  /-- 0x53 SRE IZY, R303. -/
  | sreIzy (z : Byte)
  /-- 0x55 EOR ZPX, R235. -/
  | eorZpx (z : Byte)
  /-- 0x56 LSR ZPX, R252. -/
  | lsrZpx (z : Byte)
  /-- 0x57 SRE ZPX, R303. -/
  | sreZpx (z : Byte)
  /-- 0x58 CLI IMP, R292. -/
  | cli
  /-- 0x59 EOR ABY, R235. -/
  | eorAby (a : Addr)
  /-- 0x5B SRE ABY, R303. -/
  | sreAby (a : Addr)
  /-- 0x5D EOR ABX, R235. -/
  | eorAbx (a : Addr)
  /-- 0x5E LSR ABX, R252. -/
  | lsrAbx (a : Addr)
  /-- 0x5F SRE ABX, R303. -/
  | sreAbx (a : Addr)
  /-- 0x60 RTS IMP, R273. -/
  | rts
  /-- 0x61 ADC IZX, R231. -/
  | adcIzx (z : Byte)
  /-- 0x63 RRA IZX, R304. -/
  | rraIzx (z : Byte)
  /-- 0x65 ADC ZP, R231. -/
  | adcZp (z : Byte)
  /-- 0x66 ROR ZP, R254. -/
  | rorZp (z : Byte)
  /-- 0x67 RRA ZP, R304. -/
  | rraZp (z : Byte)
  /-- 0x68 PLA IMP, R223. -/
  | pla
  /-- 0x69 ADC IMM, R231. -/
  | adcImm (v : Byte)
  /-- 0x6A ROR ACC, R254. -/
  | rorAcc
  /-- 0x6B ARR IMM, R311. -/
  | arrImm (v : Byte)
  /-- 0x6C JMP IND, R271. -/
  | jmpInd (a : Addr)
  /-- 0x6D ADC ABS, R231. -/
  | adcAbs (a : Addr)
  /-- 0x6E ROR ABS, R254. -/
  | rorAbs (a : Addr)
  /-- 0x6F RRA ABS, R304. -/
  | rraAbs (a : Addr)
  /-- 0x70 BVS REL, R280. -/
  | bvs (off : Byte)
  /-- 0x71 ADC IZY, R231. -/
  | adcIzy (z : Byte)
  /-- 0x73 RRA IZY, R304. -/
  | rraIzy (z : Byte)
  /-- 0x75 ADC ZPX, R231. -/
  | adcZpx (z : Byte)
  /-- 0x76 ROR ZPX, R254. -/
  | rorZpx (z : Byte)
  /-- 0x77 RRA ZPX, R304. -/
  | rraZpx (z : Byte)
  /-- 0x78 SEI IMP, R293. -/
  | sei
  /-- 0x79 ADC ABY, R231. -/
  | adcAby (a : Addr)
  /-- 0x7B RRA ABY, R304. -/
  | rraAby (a : Addr)
  /-- 0x7D ADC ABX, R231. -/
  | adcAbx (a : Addr)
  /-- 0x7E ROR ABX, R254. -/
  | rorAbx (a : Addr)
  /-- 0x7F RRA ABX, R304. -/
  | rraAbx (a : Addr)
  /-- 0x80 0x82 0x89 0xC2 0xE2 NOP IMM, R322. -/
  | nopImm (k : NopImmByte) (v : Byte)
  /-- 0x81 STA IZX, R204. -/
  | staIzx (z : Byte)
  /-- 0x83 SAX IZX, R305. -/
  | saxIzx (z : Byte)
  /-- 0x84 STY ZP, R206. -/
  | styZp (z : Byte)
  /-- 0x85 STA ZP, R204. -/
  | staZp (z : Byte)
  /-- 0x86 STX ZP, R205. -/
  | stxZp (z : Byte)
  /-- 0x87 SAX ZP, R305. -/
  | saxZp (z : Byte)
  /-- 0x88 DEY IMP, R260. -/
  | dey
  /-- 0x8A TXA IMP, R209. -/
  | txa
  /-- 0x8B XAA IMM, R312. -/
  | xaaImm (v : Byte)
  /-- 0x8C STY ABS, R206. -/
  | styAbs (a : Addr)
  /-- 0x8D STA ABS, R204. -/
  | staAbs (a : Addr)
  /-- 0x8E STX ABS, R205. -/
  | stxAbs (a : Addr)
  /-- 0x8F SAX ABS, R305. -/
  | saxAbs (a : Addr)
  /-- 0x90 BCC REL, R281. -/
  | bcc (off : Byte)
  /-- 0x91 STA IZY, R204. -/
  | staIzy (z : Byte)
  /-- 0x93 SHA IZY, R316. -/
  | shaIzy (z : Byte)
  /-- 0x94 STY ZPX, R206. -/
  | styZpx (z : Byte)
  /-- 0x95 STA ZPX, R204. -/
  | staZpx (z : Byte)
  /-- 0x96 STX ZPY, R205. -/
  | stxZpy (z : Byte)
  /-- 0x97 SAX ZPY, R305. -/
  | saxZpy (z : Byte)
  /-- 0x98 TYA IMP, R210. -/
  | tya
  /-- 0x99 STA ABY, R204. -/
  | staAby (a : Addr)
  /-- 0x9A TXS IMP, R212. -/
  | txs
  /-- 0x9B TAS ABY, R319. -/
  | tasAby (a : Addr)
  /-- 0x9C SHY ABX, R318. -/
  | shyAbx (a : Addr)
  /-- 0x9D STA ABX, R204. -/
  | staAbx (a : Addr)
  /-- 0x9E SHX ABY, R317. -/
  | shxAby (a : Addr)
  /-- 0x9F SHA ABY, R316. -/
  | shaAby (a : Addr)
  /-- 0xA0 LDY IMM, R203. -/
  | ldyImm (v : Byte)
  /-- 0xA1 LDA IZX, R201. -/
  | ldaIzx (z : Byte)
  /-- 0xA2 LDX IMM, R202. -/
  | ldxImm (v : Byte)
  /-- 0xA3 LAX IZX, R306. -/
  | laxIzx (z : Byte)
  /-- 0xA4 LDY ZP, R203. -/
  | ldyZp (z : Byte)
  /-- 0xA5 LDA ZP, R201. -/
  | ldaZp (z : Byte)
  /-- 0xA6 LDX ZP, R202. -/
  | ldxZp (z : Byte)
  /-- 0xA7 LAX ZP, R306. -/
  | laxZp (z : Byte)
  /-- 0xA8 TAY IMP, R208. -/
  | tay
  /-- 0xA9 LDA IMM, R201. -/
  | ldaImm (v : Byte)
  /-- 0xAA TAX IMP, R207. -/
  | tax
  /-- 0xAB LXA IMM, R313. -/
  | lxaImm (v : Byte)
  /-- 0xAC LDY ABS, R203. -/
  | ldyAbs (a : Addr)
  /-- 0xAD LDA ABS, R201. -/
  | ldaAbs (a : Addr)
  /-- 0xAE LDX ABS, R202. -/
  | ldxAbs (a : Addr)
  /-- 0xAF LAX ABS, R306. -/
  | laxAbs (a : Addr)
  /-- 0xB0 BCS REL, R282. -/
  | bcs (off : Byte)
  /-- 0xB1 LDA IZY, R201. -/
  | ldaIzy (z : Byte)
  /-- 0xB3 LAX IZY, R306. -/
  | laxIzy (z : Byte)
  /-- 0xB4 LDY ZPX, R203. -/
  | ldyZpx (z : Byte)
  /-- 0xB5 LDA ZPX, R201. -/
  | ldaZpx (z : Byte)
  /-- 0xB6 LDX ZPY, R202. -/
  | ldxZpy (z : Byte)
  /-- 0xB7 LAX ZPY, R306. -/
  | laxZpy (z : Byte)
  /-- 0xB8 CLV IMP, R296. -/
  | clv
  /-- 0xB9 LDA ABY, R201. -/
  | ldaAby (a : Addr)
  /-- 0xBA TSX IMP, R211. -/
  | tsx
  /-- 0xBB LAS ABY, R320. -/
  | lasAby (a : Addr)
  /-- 0xBC LDY ABX, R203. -/
  | ldyAbx (a : Addr)
  /-- 0xBD LDA ABX, R201. -/
  | ldaAbx (a : Addr)
  /-- 0xBE LDX ABY, R202. -/
  | ldxAby (a : Addr)
  /-- 0xBF LAX ABY, R306. -/
  | laxAby (a : Addr)
  /-- 0xC0 CPY IMM, R238. -/
  | cpyImm (v : Byte)
  /-- 0xC1 CMP IZX, R236. -/
  | cmpIzx (z : Byte)
  /-- 0xC3 DCP IZX, R307. -/
  | dcpIzx (z : Byte)
  /-- 0xC4 CPY ZP, R238. -/
  | cpyZp (z : Byte)
  /-- 0xC5 CMP ZP, R236. -/
  | cmpZp (z : Byte)
  /-- 0xC6 DEC ZP, R256. -/
  | decZp (z : Byte)
  /-- 0xC7 DCP ZP, R307. -/
  | dcpZp (z : Byte)
  /-- 0xC8 INY IMP, R258. -/
  | iny
  /-- 0xC9 CMP IMM, R236. -/
  | cmpImm (v : Byte)
  /-- 0xCA DEX IMP, R259. -/
  | dex
  /-- 0xCB AXS IMM, R314. -/
  | axsImm (v : Byte)
  /-- 0xCC CPY ABS, R238. -/
  | cpyAbs (a : Addr)
  /-- 0xCD CMP ABS, R236. -/
  | cmpAbs (a : Addr)
  /-- 0xCE DEC ABS, R256. -/
  | decAbs (a : Addr)
  /-- 0xCF DCP ABS, R307. -/
  | dcpAbs (a : Addr)
  /-- 0xD0 BNE REL, R283. -/
  | bne (off : Byte)
  /-- 0xD1 CMP IZY, R236. -/
  | cmpIzy (z : Byte)
  /-- 0xD3 DCP IZY, R307. -/
  | dcpIzy (z : Byte)
  /-- 0xD5 CMP ZPX, R236. -/
  | cmpZpx (z : Byte)
  /-- 0xD6 DEC ZPX, R256. -/
  | decZpx (z : Byte)
  /-- 0xD7 DCP ZPX, R307. -/
  | dcpZpx (z : Byte)
  /-- 0xD8 CLD IMP, R294. -/
  | cld
  /-- 0xD9 CMP ABY, R236. -/
  | cmpAby (a : Addr)
  /-- 0xDB DCP ABY, R307. -/
  | dcpAby (a : Addr)
  /-- 0xDD CMP ABX, R236. -/
  | cmpAbx (a : Addr)
  /-- 0xDE DEC ABX, R256. -/
  | decAbx (a : Addr)
  /-- 0xDF DCP ABX, R307. -/
  | dcpAbx (a : Addr)
  /-- 0xE0 CPX IMM, R237. -/
  | cpxImm (v : Byte)
  /-- 0xE1 SBC IZX, R232. -/
  | sbcIzx (z : Byte)
  /-- 0xE3 ISC IZX, R308. -/
  | iscIzx (z : Byte)
  /-- 0xE4 CPX ZP, R237. -/
  | cpxZp (z : Byte)
  /-- 0xE5 SBC ZP, R232. -/
  | sbcZp (z : Byte)
  /-- 0xE6 INC ZP, R255. -/
  | incZp (z : Byte)
  /-- 0xE7 ISC ZP, R308. -/
  | iscZp (z : Byte)
  /-- 0xE8 INX IMP, R257. -/
  | inx
  /-- 0xE9 SBC IMM, R232. -/
  | sbcImm (v : Byte)
  /-- 0xEA NOP IMP, R297. -/
  | nop
  /-- 0xEB USBC IMM, R315. -/
  | usbcImm (v : Byte)
  /-- 0xEC CPX ABS, R237. -/
  | cpxAbs (a : Addr)
  /-- 0xED SBC ABS, R232. -/
  | sbcAbs (a : Addr)
  /-- 0xEE INC ABS, R255. -/
  | incAbs (a : Addr)
  /-- 0xEF ISC ABS, R308. -/
  | iscAbs (a : Addr)
  /-- 0xF0 BEQ REL, R284. -/
  | beq (off : Byte)
  /-- 0xF1 SBC IZY, R232. -/
  | sbcIzy (z : Byte)
  /-- 0xF3 ISC IZY, R308. -/
  | iscIzy (z : Byte)
  /-- 0xF5 SBC ZPX, R232. -/
  | sbcZpx (z : Byte)
  /-- 0xF6 INC ZPX, R255. -/
  | incZpx (z : Byte)
  /-- 0xF7 ISC ZPX, R308. -/
  | iscZpx (z : Byte)
  /-- 0xF8 SED IMP, R295. -/
  | sed
  /-- 0xF9 SBC ABY, R232. -/
  | sbcAby (a : Addr)
  /-- 0xFB ISC ABY, R308. -/
  | iscAby (a : Addr)
  /-- 0xFD SBC ABX, R232. -/
  | sbcAbx (a : Addr)
  /-- 0xFE INC ABX, R255. -/
  | incAbx (a : Addr)
  /-- 0xFF ISC ABX, R308. -/
  | iscAbx (a : Addr)
deriving DecidableEq, Repr

end Sys2Proof
end

