-- ==== Sys2Proof/Decode.lean ====
section
/-! DEFINITION. From bytes to instructions and back (30_encoding.md R130, R131, R146). The decoder is the
256-entry table of R146, one function per row of sixteen opcodes; the encoder is written from the same
table read the other way. Every opcode byte decodes (R131, R148); the only thing a byte list can be
refused for is that it ends too early. -/
namespace Sys2Proof

open Sys2Proof.Machine

/-- Opcodes 0x00 to 0x0F of R146, by low nibble; `b1`, `b2` are the operand bytes, low byte first. -/
def decodeRow0 (n : Nat) (b1 b2 : Byte) : Instr :=
  match n with
  | 0 => .brk
  | 1 => .oraIzx b1
  | 2 => .jam .b02
  | 3 => .sloIzx b1
  | 4 => .nopZp .b04 b1
  | 5 => .oraZp b1
  | 6 => .aslZp b1
  | 7 => .sloZp b1
  | 8 => .php
  | 9 => .oraImm b1
  | 10 => .aslAcc
  | 11 => .ancImm .b0B b1
  | 12 => .nopAbs (word b2 b1)
  | 13 => .oraAbs (word b2 b1)
  | 14 => .aslAbs (word b2 b1)
  | _ => .sloAbs (word b2 b1)

/-- Opcodes 0x10 to 0x1F of R146, by low nibble; `b1`, `b2` are the operand bytes, low byte first. -/
def decodeRow1 (n : Nat) (b1 b2 : Byte) : Instr :=
  match n with
  | 0 => .bpl b1
  | 1 => .oraIzy b1
  | 2 => .jam .b12
  | 3 => .sloIzy b1
  | 4 => .nopZpx .b14 b1
  | 5 => .oraZpx b1
  | 6 => .aslZpx b1
  | 7 => .sloZpx b1
  | 8 => .clc
  | 9 => .oraAby (word b2 b1)
  | 10 => .nopImp .b1A
  | 11 => .sloAby (word b2 b1)
  | 12 => .nopAbx .b1C (word b2 b1)
  | 13 => .oraAbx (word b2 b1)
  | 14 => .aslAbx (word b2 b1)
  | _ => .sloAbx (word b2 b1)

/-- Opcodes 0x20 to 0x2F of R146, by low nibble; `b1`, `b2` are the operand bytes, low byte first. -/
def decodeRow2 (n : Nat) (b1 b2 : Byte) : Instr :=
  match n with
  | 0 => .jsrAbs (word b2 b1)
  | 1 => .andIzx b1
  | 2 => .jam .b22
  | 3 => .rlaIzx b1
  | 4 => .bitZp b1
  | 5 => .andZp b1
  | 6 => .rolZp b1
  | 7 => .rlaZp b1
  | 8 => .plp
  | 9 => .andImm b1
  | 10 => .rolAcc
  | 11 => .ancImm .b2B b1
  | 12 => .bitAbs (word b2 b1)
  | 13 => .andAbs (word b2 b1)
  | 14 => .rolAbs (word b2 b1)
  | _ => .rlaAbs (word b2 b1)

/-- Opcodes 0x30 to 0x3F of R146, by low nibble; `b1`, `b2` are the operand bytes, low byte first. -/
def decodeRow3 (n : Nat) (b1 b2 : Byte) : Instr :=
  match n with
  | 0 => .bmi b1
  | 1 => .andIzy b1
  | 2 => .jam .b32
  | 3 => .rlaIzy b1
  | 4 => .nopZpx .b34 b1
  | 5 => .andZpx b1
  | 6 => .rolZpx b1
  | 7 => .rlaZpx b1
  | 8 => .sec
  | 9 => .andAby (word b2 b1)
  | 10 => .nopImp .b3A
  | 11 => .rlaAby (word b2 b1)
  | 12 => .nopAbx .b3C (word b2 b1)
  | 13 => .andAbx (word b2 b1)
  | 14 => .rolAbx (word b2 b1)
  | _ => .rlaAbx (word b2 b1)

/-- Opcodes 0x40 to 0x4F of R146, by low nibble; `b1`, `b2` are the operand bytes, low byte first. -/
def decodeRow4 (n : Nat) (b1 b2 : Byte) : Instr :=
  match n with
  | 0 => .rti
  | 1 => .eorIzx b1
  | 2 => .jam .b42
  | 3 => .sreIzx b1
  | 4 => .nopZp .b44 b1
  | 5 => .eorZp b1
  | 6 => .lsrZp b1
  | 7 => .sreZp b1
  | 8 => .pha
  | 9 => .eorImm b1
  | 10 => .lsrAcc
  | 11 => .alrImm b1
  | 12 => .jmpAbs (word b2 b1)
  | 13 => .eorAbs (word b2 b1)
  | 14 => .lsrAbs (word b2 b1)
  | _ => .sreAbs (word b2 b1)

/-- Opcodes 0x50 to 0x5F of R146, by low nibble; `b1`, `b2` are the operand bytes, low byte first. -/
def decodeRow5 (n : Nat) (b1 b2 : Byte) : Instr :=
  match n with
  | 0 => .bvc b1
  | 1 => .eorIzy b1
  | 2 => .jam .b52
  | 3 => .sreIzy b1
  | 4 => .nopZpx .b54 b1
  | 5 => .eorZpx b1
  | 6 => .lsrZpx b1
  | 7 => .sreZpx b1
  | 8 => .cli
  | 9 => .eorAby (word b2 b1)
  | 10 => .nopImp .b5A
  | 11 => .sreAby (word b2 b1)
  | 12 => .nopAbx .b5C (word b2 b1)
  | 13 => .eorAbx (word b2 b1)
  | 14 => .lsrAbx (word b2 b1)
  | _ => .sreAbx (word b2 b1)

/-- Opcodes 0x60 to 0x6F of R146, by low nibble; `b1`, `b2` are the operand bytes, low byte first. -/
def decodeRow6 (n : Nat) (b1 b2 : Byte) : Instr :=
  match n with
  | 0 => .rts
  | 1 => .adcIzx b1
  | 2 => .jam .b62
  | 3 => .rraIzx b1
  | 4 => .nopZp .b64 b1
  | 5 => .adcZp b1
  | 6 => .rorZp b1
  | 7 => .rraZp b1
  | 8 => .pla
  | 9 => .adcImm b1
  | 10 => .rorAcc
  | 11 => .arrImm b1
  | 12 => .jmpInd (word b2 b1)
  | 13 => .adcAbs (word b2 b1)
  | 14 => .rorAbs (word b2 b1)
  | _ => .rraAbs (word b2 b1)

/-- Opcodes 0x70 to 0x7F of R146, by low nibble; `b1`, `b2` are the operand bytes, low byte first. -/
def decodeRow7 (n : Nat) (b1 b2 : Byte) : Instr :=
  match n with
  | 0 => .bvs b1
  | 1 => .adcIzy b1
  | 2 => .jam .b72
  | 3 => .rraIzy b1
  | 4 => .nopZpx .b74 b1
  | 5 => .adcZpx b1
  | 6 => .rorZpx b1
  | 7 => .rraZpx b1
  | 8 => .sei
  | 9 => .adcAby (word b2 b1)
  | 10 => .nopImp .b7A
  | 11 => .rraAby (word b2 b1)
  | 12 => .nopAbx .b7C (word b2 b1)
  | 13 => .adcAbx (word b2 b1)
  | 14 => .rorAbx (word b2 b1)
  | _ => .rraAbx (word b2 b1)

/-- Opcodes 0x80 to 0x8F of R146, by low nibble; `b1`, `b2` are the operand bytes, low byte first. -/
def decodeRow8 (n : Nat) (b1 b2 : Byte) : Instr :=
  match n with
  | 0 => .nopImm .b80 b1
  | 1 => .staIzx b1
  | 2 => .nopImm .b82 b1
  | 3 => .saxIzx b1
  | 4 => .styZp b1
  | 5 => .staZp b1
  | 6 => .stxZp b1
  | 7 => .saxZp b1
  | 8 => .dey
  | 9 => .nopImm .b89 b1
  | 10 => .txa
  | 11 => .xaaImm b1
  | 12 => .styAbs (word b2 b1)
  | 13 => .staAbs (word b2 b1)
  | 14 => .stxAbs (word b2 b1)
  | _ => .saxAbs (word b2 b1)

/-- Opcodes 0x90 to 0x9F of R146, by low nibble; `b1`, `b2` are the operand bytes, low byte first. -/
def decodeRow9 (n : Nat) (b1 b2 : Byte) : Instr :=
  match n with
  | 0 => .bcc b1
  | 1 => .staIzy b1
  | 2 => .jam .b92
  | 3 => .shaIzy b1
  | 4 => .styZpx b1
  | 5 => .staZpx b1
  | 6 => .stxZpy b1
  | 7 => .saxZpy b1
  | 8 => .tya
  | 9 => .staAby (word b2 b1)
  | 10 => .txs
  | 11 => .tasAby (word b2 b1)
  | 12 => .shyAbx (word b2 b1)
  | 13 => .staAbx (word b2 b1)
  | 14 => .shxAby (word b2 b1)
  | _ => .shaAby (word b2 b1)

/-- Opcodes 0xA0 to 0xAF of R146, by low nibble; `b1`, `b2` are the operand bytes, low byte first. -/
def decodeRowA (n : Nat) (b1 b2 : Byte) : Instr :=
  match n with
  | 0 => .ldyImm b1
  | 1 => .ldaIzx b1
  | 2 => .ldxImm b1
  | 3 => .laxIzx b1
  | 4 => .ldyZp b1
  | 5 => .ldaZp b1
  | 6 => .ldxZp b1
  | 7 => .laxZp b1
  | 8 => .tay
  | 9 => .ldaImm b1
  | 10 => .tax
  | 11 => .lxaImm b1
  | 12 => .ldyAbs (word b2 b1)
  | 13 => .ldaAbs (word b2 b1)
  | 14 => .ldxAbs (word b2 b1)
  | _ => .laxAbs (word b2 b1)

/-- Opcodes 0xB0 to 0xBF of R146, by low nibble; `b1`, `b2` are the operand bytes, low byte first. -/
def decodeRowB (n : Nat) (b1 b2 : Byte) : Instr :=
  match n with
  | 0 => .bcs b1
  | 1 => .ldaIzy b1
  | 2 => .jam .bB2
  | 3 => .laxIzy b1
  | 4 => .ldyZpx b1
  | 5 => .ldaZpx b1
  | 6 => .ldxZpy b1
  | 7 => .laxZpy b1
  | 8 => .clv
  | 9 => .ldaAby (word b2 b1)
  | 10 => .tsx
  | 11 => .lasAby (word b2 b1)
  | 12 => .ldyAbx (word b2 b1)
  | 13 => .ldaAbx (word b2 b1)
  | 14 => .ldxAby (word b2 b1)
  | _ => .laxAby (word b2 b1)

/-- Opcodes 0xC0 to 0xCF of R146, by low nibble; `b1`, `b2` are the operand bytes, low byte first. -/
def decodeRowC (n : Nat) (b1 b2 : Byte) : Instr :=
  match n with
  | 0 => .cpyImm b1
  | 1 => .cmpIzx b1
  | 2 => .nopImm .bC2 b1
  | 3 => .dcpIzx b1
  | 4 => .cpyZp b1
  | 5 => .cmpZp b1
  | 6 => .decZp b1
  | 7 => .dcpZp b1
  | 8 => .iny
  | 9 => .cmpImm b1
  | 10 => .dex
  | 11 => .axsImm b1
  | 12 => .cpyAbs (word b2 b1)
  | 13 => .cmpAbs (word b2 b1)
  | 14 => .decAbs (word b2 b1)
  | _ => .dcpAbs (word b2 b1)

/-- Opcodes 0xD0 to 0xDF of R146, by low nibble; `b1`, `b2` are the operand bytes, low byte first. -/
def decodeRowD (n : Nat) (b1 b2 : Byte) : Instr :=
  match n with
  | 0 => .bne b1
  | 1 => .cmpIzy b1
  | 2 => .jam .bD2
  | 3 => .dcpIzy b1
  | 4 => .nopZpx .bD4 b1
  | 5 => .cmpZpx b1
  | 6 => .decZpx b1
  | 7 => .dcpZpx b1
  | 8 => .cld
  | 9 => .cmpAby (word b2 b1)
  | 10 => .nopImp .bDA
  | 11 => .dcpAby (word b2 b1)
  | 12 => .nopAbx .bDC (word b2 b1)
  | 13 => .cmpAbx (word b2 b1)
  | 14 => .decAbx (word b2 b1)
  | _ => .dcpAbx (word b2 b1)

/-- Opcodes 0xE0 to 0xEF of R146, by low nibble; `b1`, `b2` are the operand bytes, low byte first. -/
def decodeRowE (n : Nat) (b1 b2 : Byte) : Instr :=
  match n with
  | 0 => .cpxImm b1
  | 1 => .sbcIzx b1
  | 2 => .nopImm .bE2 b1
  | 3 => .iscIzx b1
  | 4 => .cpxZp b1
  | 5 => .sbcZp b1
  | 6 => .incZp b1
  | 7 => .iscZp b1
  | 8 => .inx
  | 9 => .sbcImm b1
  | 10 => .nop
  | 11 => .usbcImm b1
  | 12 => .cpxAbs (word b2 b1)
  | 13 => .sbcAbs (word b2 b1)
  | 14 => .incAbs (word b2 b1)
  | _ => .iscAbs (word b2 b1)

/-- Opcodes 0xF0 to 0xFF of R146, by low nibble; `b1`, `b2` are the operand bytes, low byte first. -/
def decodeRowF (n : Nat) (b1 b2 : Byte) : Instr :=
  match n with
  | 0 => .beq b1
  | 1 => .sbcIzy b1
  | 2 => .jam .bF2
  | 3 => .iscIzy b1
  | 4 => .nopZpx .bF4 b1
  | 5 => .sbcZpx b1
  | 6 => .incZpx b1
  | 7 => .iscZpx b1
  | 8 => .sed
  | 9 => .sbcAby (word b2 b1)
  | 10 => .nopImp .bFA
  | 11 => .iscAby (word b2 b1)
  | 12 => .nopAbx .bFC (word b2 b1)
  | 13 => .sbcAbx (word b2 b1)
  | 14 => .incAbx (word b2 b1)
  | _ => .iscAbx (word b2 b1)

/-- The decoder of R131 on an opcode byte and the two bytes after it; a shorter instruction ignores the
bytes it does not have. -/
def decodeOp (op b1 b2 : Byte) : Instr :=
  match op.toNat / 16 with
  | 0 => decodeRow0 (op.toNat % 16) b1 b2
  | 1 => decodeRow1 (op.toNat % 16) b1 b2
  | 2 => decodeRow2 (op.toNat % 16) b1 b2
  | 3 => decodeRow3 (op.toNat % 16) b1 b2
  | 4 => decodeRow4 (op.toNat % 16) b1 b2
  | 5 => decodeRow5 (op.toNat % 16) b1 b2
  | 6 => decodeRow6 (op.toNat % 16) b1 b2
  | 7 => decodeRow7 (op.toNat % 16) b1 b2
  | 8 => decodeRow8 (op.toNat % 16) b1 b2
  | 9 => decodeRow9 (op.toNat % 16) b1 b2
  | 10 => decodeRowA (op.toNat % 16) b1 b2
  | 11 => decodeRowB (op.toNat % 16) b1 b2
  | 12 => decodeRowC (op.toNat % 16) b1 b2
  | 13 => decodeRowD (op.toNat % 16) b1 b2
  | 14 => decodeRowE (op.toNat % 16) b1 b2
  | _ => decodeRowF (op.toNat % 16) b1 b2

/-- The operation of an instruction (R131): its mnemonic in the opcode table. -/
def Instr.op : Instr → Mnemonic
  | .brk => .brk
  | .oraIzx _ => .ora
  | .jam _ => .jam
  | .sloIzx _ => .slo
  | .nopZp _ _ => .nop
  | .oraZp _ => .ora
  | .aslZp _ => .asl
  | .sloZp _ => .slo
  | .php => .php
  | .oraImm _ => .ora
  | .aslAcc => .asl
  | .ancImm _ _ => .anc
  | .nopAbs _ => .nop
  | .oraAbs _ => .ora
  | .aslAbs _ => .asl
  | .sloAbs _ => .slo
  | .bpl _ => .bpl
  | .oraIzy _ => .ora
  | .sloIzy _ => .slo
  | .nopZpx _ _ => .nop
  | .oraZpx _ => .ora
  | .aslZpx _ => .asl
  | .sloZpx _ => .slo
  | .clc => .clc
  | .oraAby _ => .ora
  | .nopImp _ => .nop
  | .sloAby _ => .slo
  | .nopAbx _ _ => .nop
  | .oraAbx _ => .ora
  | .aslAbx _ => .asl
  | .sloAbx _ => .slo
  | .jsrAbs _ => .jsr
  | .andIzx _ => .and
  | .rlaIzx _ => .rla
  | .bitZp _ => .bit
  | .andZp _ => .and
  | .rolZp _ => .rol
  | .rlaZp _ => .rla
  | .plp => .plp
  | .andImm _ => .and
  | .rolAcc => .rol
  | .bitAbs _ => .bit
  | .andAbs _ => .and
  | .rolAbs _ => .rol
  | .rlaAbs _ => .rla
  | .bmi _ => .bmi
  | .andIzy _ => .and
  | .rlaIzy _ => .rla
  | .andZpx _ => .and
  | .rolZpx _ => .rol
  | .rlaZpx _ => .rla
  | .sec => .sec
  | .andAby _ => .and
  | .rlaAby _ => .rla
  | .andAbx _ => .and
  | .rolAbx _ => .rol
  | .rlaAbx _ => .rla
  | .rti => .rti
  | .eorIzx _ => .eor
  | .sreIzx _ => .sre
  | .eorZp _ => .eor
  | .lsrZp _ => .lsr
  | .sreZp _ => .sre
  | .pha => .pha
  | .eorImm _ => .eor
  | .lsrAcc => .lsr
  | .alrImm _ => .alr
  | .jmpAbs _ => .jmp
  | .eorAbs _ => .eor
  | .lsrAbs _ => .lsr
  | .sreAbs _ => .sre
  | .bvc _ => .bvc
  | .eorIzy _ => .eor
  | .sreIzy _ => .sre
  | .eorZpx _ => .eor
  | .lsrZpx _ => .lsr
  | .sreZpx _ => .sre
  | .cli => .cli
  | .eorAby _ => .eor
  | .sreAby _ => .sre
  | .eorAbx _ => .eor
  | .lsrAbx _ => .lsr
  | .sreAbx _ => .sre
  | .rts => .rts
  | .adcIzx _ => .adc
  | .rraIzx _ => .rra
  | .adcZp _ => .adc
  | .rorZp _ => .ror
  | .rraZp _ => .rra
  | .pla => .pla
  | .adcImm _ => .adc
  | .rorAcc => .ror
  | .arrImm _ => .arr
  | .jmpInd _ => .jmp
  | .adcAbs _ => .adc
  | .rorAbs _ => .ror
  | .rraAbs _ => .rra
  | .bvs _ => .bvs
  | .adcIzy _ => .adc
  | .rraIzy _ => .rra
  | .adcZpx _ => .adc
  | .rorZpx _ => .ror
  | .rraZpx _ => .rra
  | .sei => .sei
  | .adcAby _ => .adc
  | .rraAby _ => .rra
  | .adcAbx _ => .adc
  | .rorAbx _ => .ror
  | .rraAbx _ => .rra
  | .nopImm _ _ => .nop
  | .staIzx _ => .sta
  | .saxIzx _ => .sax
  | .styZp _ => .sty
  | .staZp _ => .sta
  | .stxZp _ => .stx
  | .saxZp _ => .sax
  | .dey => .dey
  | .txa => .txa
  | .xaaImm _ => .xaa
  | .styAbs _ => .sty
  | .staAbs _ => .sta
  | .stxAbs _ => .stx
  | .saxAbs _ => .sax
  | .bcc _ => .bcc
  | .staIzy _ => .sta
  | .shaIzy _ => .sha
  | .styZpx _ => .sty
  | .staZpx _ => .sta
  | .stxZpy _ => .stx
  | .saxZpy _ => .sax
  | .tya => .tya
  | .staAby _ => .sta
  | .txs => .txs
  | .tasAby _ => .tas
  | .shyAbx _ => .shy
  | .staAbx _ => .sta
  | .shxAby _ => .shx
  | .shaAby _ => .sha
  | .ldyImm _ => .ldy
  | .ldaIzx _ => .lda
  | .ldxImm _ => .ldx
  | .laxIzx _ => .lax
  | .ldyZp _ => .ldy
  | .ldaZp _ => .lda
  | .ldxZp _ => .ldx
  | .laxZp _ => .lax
  | .tay => .tay
  | .ldaImm _ => .lda
  | .tax => .tax
  | .lxaImm _ => .lxa
  | .ldyAbs _ => .ldy
  | .ldaAbs _ => .lda
  | .ldxAbs _ => .ldx
  | .laxAbs _ => .lax
  | .bcs _ => .bcs
  | .ldaIzy _ => .lda
  | .laxIzy _ => .lax
  | .ldyZpx _ => .ldy
  | .ldaZpx _ => .lda
  | .ldxZpy _ => .ldx
  | .laxZpy _ => .lax
  | .clv => .clv
  | .ldaAby _ => .lda
  | .tsx => .tsx
  | .lasAby _ => .las
  | .ldyAbx _ => .ldy
  | .ldaAbx _ => .lda
  | .ldxAby _ => .ldx
  | .laxAby _ => .lax
  | .cpyImm _ => .cpy
  | .cmpIzx _ => .cmp
  | .dcpIzx _ => .dcp
  | .cpyZp _ => .cpy
  | .cmpZp _ => .cmp
  | .decZp _ => .dec
  | .dcpZp _ => .dcp
  | .iny => .iny
  | .cmpImm _ => .cmp
  | .dex => .dex
  | .axsImm _ => .axs
  | .cpyAbs _ => .cpy
  | .cmpAbs _ => .cmp
  | .decAbs _ => .dec
  | .dcpAbs _ => .dcp
  | .bne _ => .bne
  | .cmpIzy _ => .cmp
  | .dcpIzy _ => .dcp
  | .cmpZpx _ => .cmp
  | .decZpx _ => .dec
  | .dcpZpx _ => .dcp
  | .cld => .cld
  | .cmpAby _ => .cmp
  | .dcpAby _ => .dcp
  | .cmpAbx _ => .cmp
  | .decAbx _ => .dec
  | .dcpAbx _ => .dcp
  | .cpxImm _ => .cpx
  | .sbcIzx _ => .sbc
  | .iscIzx _ => .isc
  | .cpxZp _ => .cpx
  | .sbcZp _ => .sbc
  | .incZp _ => .inc
  | .iscZp _ => .isc
  | .inx => .inx
  | .sbcImm _ => .sbc
  | .nop => .nop
  | .usbcImm _ => .usbc
  | .cpxAbs _ => .cpx
  | .sbcAbs _ => .sbc
  | .incAbs _ => .inc
  | .iscAbs _ => .isc
  | .beq _ => .beq
  | .sbcIzy _ => .sbc
  | .iscIzy _ => .isc
  | .sbcZpx _ => .sbc
  | .incZpx _ => .inc
  | .iscZpx _ => .isc
  | .sed => .sed
  | .sbcAby _ => .sbc
  | .iscAby _ => .isc
  | .sbcAbx _ => .sbc
  | .incAbx _ => .inc
  | .iscAbx _ => .isc

/-- The addressing mode of an instruction with its operand (R131, R146). -/
def Instr.mode : Instr → Mode
  | .brk => .imp
  | .oraIzx z => .izx z
  | .jam _ => .imp
  | .sloIzx z => .izx z
  | .nopZp _ z => .zp z
  | .oraZp z => .zp z
  | .aslZp z => .zp z
  | .sloZp z => .zp z
  | .php => .imp
  | .oraImm v => .imm v
  | .aslAcc => .acc
  | .ancImm _ v => .imm v
  | .nopAbs a => .abs a
  | .oraAbs a => .abs a
  | .aslAbs a => .abs a
  | .sloAbs a => .abs a
  | .bpl off => .rel off
  | .oraIzy z => .izy z
  | .sloIzy z => .izy z
  | .nopZpx _ z => .zpx z
  | .oraZpx z => .zpx z
  | .aslZpx z => .zpx z
  | .sloZpx z => .zpx z
  | .clc => .imp
  | .oraAby a => .aby a
  | .nopImp _ => .imp
  | .sloAby a => .aby a
  | .nopAbx _ a => .abx a
  | .oraAbx a => .abx a
  | .aslAbx a => .abx a
  | .sloAbx a => .abx a
  | .jsrAbs a => .abs a
  | .andIzx z => .izx z
  | .rlaIzx z => .izx z
  | .bitZp z => .zp z
  | .andZp z => .zp z
  | .rolZp z => .zp z
  | .rlaZp z => .zp z
  | .plp => .imp
  | .andImm v => .imm v
  | .rolAcc => .acc
  | .bitAbs a => .abs a
  | .andAbs a => .abs a
  | .rolAbs a => .abs a
  | .rlaAbs a => .abs a
  | .bmi off => .rel off
  | .andIzy z => .izy z
  | .rlaIzy z => .izy z
  | .andZpx z => .zpx z
  | .rolZpx z => .zpx z
  | .rlaZpx z => .zpx z
  | .sec => .imp
  | .andAby a => .aby a
  | .rlaAby a => .aby a
  | .andAbx a => .abx a
  | .rolAbx a => .abx a
  | .rlaAbx a => .abx a
  | .rti => .imp
  | .eorIzx z => .izx z
  | .sreIzx z => .izx z
  | .eorZp z => .zp z
  | .lsrZp z => .zp z
  | .sreZp z => .zp z
  | .pha => .imp
  | .eorImm v => .imm v
  | .lsrAcc => .acc
  | .alrImm v => .imm v
  | .jmpAbs a => .abs a
  | .eorAbs a => .abs a
  | .lsrAbs a => .abs a
  | .sreAbs a => .abs a
  | .bvc off => .rel off
  | .eorIzy z => .izy z
  | .sreIzy z => .izy z
  | .eorZpx z => .zpx z
  | .lsrZpx z => .zpx z
  | .sreZpx z => .zpx z
  | .cli => .imp
  | .eorAby a => .aby a
  | .sreAby a => .aby a
  | .eorAbx a => .abx a
  | .lsrAbx a => .abx a
  | .sreAbx a => .abx a
  | .rts => .imp
  | .adcIzx z => .izx z
  | .rraIzx z => .izx z
  | .adcZp z => .zp z
  | .rorZp z => .zp z
  | .rraZp z => .zp z
  | .pla => .imp
  | .adcImm v => .imm v
  | .rorAcc => .acc
  | .arrImm v => .imm v
  | .jmpInd a => .ind a
  | .adcAbs a => .abs a
  | .rorAbs a => .abs a
  | .rraAbs a => .abs a
  | .bvs off => .rel off
  | .adcIzy z => .izy z
  | .rraIzy z => .izy z
  | .adcZpx z => .zpx z
  | .rorZpx z => .zpx z
  | .rraZpx z => .zpx z
  | .sei => .imp
  | .adcAby a => .aby a
  | .rraAby a => .aby a
  | .adcAbx a => .abx a
  | .rorAbx a => .abx a
  | .rraAbx a => .abx a
  | .nopImm _ v => .imm v
  | .staIzx z => .izx z
  | .saxIzx z => .izx z
  | .styZp z => .zp z
  | .staZp z => .zp z
  | .stxZp z => .zp z
  | .saxZp z => .zp z
  | .dey => .imp
  | .txa => .imp
  | .xaaImm v => .imm v
  | .styAbs a => .abs a
  | .staAbs a => .abs a
  | .stxAbs a => .abs a
  | .saxAbs a => .abs a
  | .bcc off => .rel off
  | .staIzy z => .izy z
  | .shaIzy z => .izy z
  | .styZpx z => .zpx z
  | .staZpx z => .zpx z
  | .stxZpy z => .zpy z
  | .saxZpy z => .zpy z
  | .tya => .imp
  | .staAby a => .aby a
  | .txs => .imp
  | .tasAby a => .aby a
  | .shyAbx a => .abx a
  | .staAbx a => .abx a
  | .shxAby a => .aby a
  | .shaAby a => .aby a
  | .ldyImm v => .imm v
  | .ldaIzx z => .izx z
  | .ldxImm v => .imm v
  | .laxIzx z => .izx z
  | .ldyZp z => .zp z
  | .ldaZp z => .zp z
  | .ldxZp z => .zp z
  | .laxZp z => .zp z
  | .tay => .imp
  | .ldaImm v => .imm v
  | .tax => .imp
  | .lxaImm v => .imm v
  | .ldyAbs a => .abs a
  | .ldaAbs a => .abs a
  | .ldxAbs a => .abs a
  | .laxAbs a => .abs a
  | .bcs off => .rel off
  | .ldaIzy z => .izy z
  | .laxIzy z => .izy z
  | .ldyZpx z => .zpx z
  | .ldaZpx z => .zpx z
  | .ldxZpy z => .zpy z
  | .laxZpy z => .zpy z
  | .clv => .imp
  | .ldaAby a => .aby a
  | .tsx => .imp
  | .lasAby a => .aby a
  | .ldyAbx a => .abx a
  | .ldaAbx a => .abx a
  | .ldxAby a => .aby a
  | .laxAby a => .aby a
  | .cpyImm v => .imm v
  | .cmpIzx z => .izx z
  | .dcpIzx z => .izx z
  | .cpyZp z => .zp z
  | .cmpZp z => .zp z
  | .decZp z => .zp z
  | .dcpZp z => .zp z
  | .iny => .imp
  | .cmpImm v => .imm v
  | .dex => .imp
  | .axsImm v => .imm v
  | .cpyAbs a => .abs a
  | .cmpAbs a => .abs a
  | .decAbs a => .abs a
  | .dcpAbs a => .abs a
  | .bne off => .rel off
  | .cmpIzy z => .izy z
  | .dcpIzy z => .izy z
  | .cmpZpx z => .zpx z
  | .decZpx z => .zpx z
  | .dcpZpx z => .zpx z
  | .cld => .imp
  | .cmpAby a => .aby a
  | .dcpAby a => .aby a
  | .cmpAbx a => .abx a
  | .decAbx a => .abx a
  | .dcpAbx a => .abx a
  | .cpxImm v => .imm v
  | .sbcIzx z => .izx z
  | .iscIzx z => .izx z
  | .cpxZp z => .zp z
  | .sbcZp z => .zp z
  | .incZp z => .zp z
  | .iscZp z => .zp z
  | .inx => .imp
  | .sbcImm v => .imm v
  | .nop => .imp
  | .usbcImm v => .imm v
  | .cpxAbs a => .abs a
  | .sbcAbs a => .abs a
  | .incAbs a => .abs a
  | .iscAbs a => .abs a
  | .beq off => .rel off
  | .sbcIzy z => .izy z
  | .iscIzy z => .izy z
  | .sbcZpx z => .zpx z
  | .incZpx z => .zpx z
  | .iscZpx z => .zpx z
  | .sed => .imp
  | .sbcAby a => .aby a
  | .iscAby a => .aby a
  | .sbcAbx a => .abx a
  | .incAbx a => .abx a
  | .iscAbx a => .abx a

/-- The opcode byte a row of JAM IMP has (R147). -/
def JamByte.byte : JamByte → Byte
  | .b02 => 0x02#8 | .b12 => 0x12#8 | .b22 => 0x22#8 | .b32 => 0x32#8 | .b42 => 0x42#8 | .b52 => 0x52#8 | .b62 => 0x62#8 | .b72 => 0x72#8 | .b92 => 0x92#8 | .bB2 => 0xB2#8 | .bD2 => 0xD2#8 | .bF2 => 0xF2#8

/-- The opcode byte a row of NOP ZP has (R147). -/
def NopZpByte.byte : NopZpByte → Byte
  | .b04 => 0x04#8 | .b44 => 0x44#8 | .b64 => 0x64#8

/-- The opcode byte a row of ANC IMM has (R147). -/
def AncImmByte.byte : AncImmByte → Byte
  | .b0B => 0x0B#8 | .b2B => 0x2B#8

/-- The opcode byte a row of NOP ZPX has (R147). -/
def NopZpxByte.byte : NopZpxByte → Byte
  | .b14 => 0x14#8 | .b34 => 0x34#8 | .b54 => 0x54#8 | .b74 => 0x74#8 | .bD4 => 0xD4#8 | .bF4 => 0xF4#8

/-- The opcode byte a row of NOP IMP has (R147). -/
def NopImpByte.byte : NopImpByte → Byte
  | .b1A => 0x1A#8 | .b3A => 0x3A#8 | .b5A => 0x5A#8 | .b7A => 0x7A#8 | .bDA => 0xDA#8 | .bFA => 0xFA#8

/-- The opcode byte a row of NOP ABX has (R147). -/
def NopAbxByte.byte : NopAbxByte → Byte
  | .b1C => 0x1C#8 | .b3C => 0x3C#8 | .b5C => 0x5C#8 | .b7C => 0x7C#8 | .bDC => 0xDC#8 | .bFC => 0xFC#8

/-- The opcode byte a row of NOP IMM has (R147). -/
def NopImmByte.byte : NopImmByte → Byte
  | .b80 => 0x80#8 | .b82 => 0x82#8 | .b89 => 0x89#8 | .bC2 => 0xC2#8 | .bE2 => 0xE2#8

/-- The opcode byte of an instruction (R146). -/
def Instr.opcode : Instr → Byte
  | .brk => 0x00#8
  | .oraIzx _ => 0x01#8
  | .jam k => k.byte
  | .sloIzx _ => 0x03#8
  | .nopZp k _ => k.byte
  | .oraZp _ => 0x05#8
  | .aslZp _ => 0x06#8
  | .sloZp _ => 0x07#8
  | .php => 0x08#8
  | .oraImm _ => 0x09#8
  | .aslAcc => 0x0A#8
  | .ancImm k _ => k.byte
  | .nopAbs _ => 0x0C#8
  | .oraAbs _ => 0x0D#8
  | .aslAbs _ => 0x0E#8
  | .sloAbs _ => 0x0F#8
  | .bpl _ => 0x10#8
  | .oraIzy _ => 0x11#8
  | .sloIzy _ => 0x13#8
  | .nopZpx k _ => k.byte
  | .oraZpx _ => 0x15#8
  | .aslZpx _ => 0x16#8
  | .sloZpx _ => 0x17#8
  | .clc => 0x18#8
  | .oraAby _ => 0x19#8
  | .nopImp k => k.byte
  | .sloAby _ => 0x1B#8
  | .nopAbx k _ => k.byte
  | .oraAbx _ => 0x1D#8
  | .aslAbx _ => 0x1E#8
  | .sloAbx _ => 0x1F#8
  | .jsrAbs _ => 0x20#8
  | .andIzx _ => 0x21#8
  | .rlaIzx _ => 0x23#8
  | .bitZp _ => 0x24#8
  | .andZp _ => 0x25#8
  | .rolZp _ => 0x26#8
  | .rlaZp _ => 0x27#8
  | .plp => 0x28#8
  | .andImm _ => 0x29#8
  | .rolAcc => 0x2A#8
  | .bitAbs _ => 0x2C#8
  | .andAbs _ => 0x2D#8
  | .rolAbs _ => 0x2E#8
  | .rlaAbs _ => 0x2F#8
  | .bmi _ => 0x30#8
  | .andIzy _ => 0x31#8
  | .rlaIzy _ => 0x33#8
  | .andZpx _ => 0x35#8
  | .rolZpx _ => 0x36#8
  | .rlaZpx _ => 0x37#8
  | .sec => 0x38#8
  | .andAby _ => 0x39#8
  | .rlaAby _ => 0x3B#8
  | .andAbx _ => 0x3D#8
  | .rolAbx _ => 0x3E#8
  | .rlaAbx _ => 0x3F#8
  | .rti => 0x40#8
  | .eorIzx _ => 0x41#8
  | .sreIzx _ => 0x43#8
  | .eorZp _ => 0x45#8
  | .lsrZp _ => 0x46#8
  | .sreZp _ => 0x47#8
  | .pha => 0x48#8
  | .eorImm _ => 0x49#8
  | .lsrAcc => 0x4A#8
  | .alrImm _ => 0x4B#8
  | .jmpAbs _ => 0x4C#8
  | .eorAbs _ => 0x4D#8
  | .lsrAbs _ => 0x4E#8
  | .sreAbs _ => 0x4F#8
  | .bvc _ => 0x50#8
  | .eorIzy _ => 0x51#8
  | .sreIzy _ => 0x53#8
  | .eorZpx _ => 0x55#8
  | .lsrZpx _ => 0x56#8
  | .sreZpx _ => 0x57#8
  | .cli => 0x58#8
  | .eorAby _ => 0x59#8
  | .sreAby _ => 0x5B#8
  | .eorAbx _ => 0x5D#8
  | .lsrAbx _ => 0x5E#8
  | .sreAbx _ => 0x5F#8
  | .rts => 0x60#8
  | .adcIzx _ => 0x61#8
  | .rraIzx _ => 0x63#8
  | .adcZp _ => 0x65#8
  | .rorZp _ => 0x66#8
  | .rraZp _ => 0x67#8
  | .pla => 0x68#8
  | .adcImm _ => 0x69#8
  | .rorAcc => 0x6A#8
  | .arrImm _ => 0x6B#8
  | .jmpInd _ => 0x6C#8
  | .adcAbs _ => 0x6D#8
  | .rorAbs _ => 0x6E#8
  | .rraAbs _ => 0x6F#8
  | .bvs _ => 0x70#8
  | .adcIzy _ => 0x71#8
  | .rraIzy _ => 0x73#8
  | .adcZpx _ => 0x75#8
  | .rorZpx _ => 0x76#8
  | .rraZpx _ => 0x77#8
  | .sei => 0x78#8
  | .adcAby _ => 0x79#8
  | .rraAby _ => 0x7B#8
  | .adcAbx _ => 0x7D#8
  | .rorAbx _ => 0x7E#8
  | .rraAbx _ => 0x7F#8
  | .nopImm k _ => k.byte
  | .staIzx _ => 0x81#8
  | .saxIzx _ => 0x83#8
  | .styZp _ => 0x84#8
  | .staZp _ => 0x85#8
  | .stxZp _ => 0x86#8
  | .saxZp _ => 0x87#8
  | .dey => 0x88#8
  | .txa => 0x8A#8
  | .xaaImm _ => 0x8B#8
  | .styAbs _ => 0x8C#8
  | .staAbs _ => 0x8D#8
  | .stxAbs _ => 0x8E#8
  | .saxAbs _ => 0x8F#8
  | .bcc _ => 0x90#8
  | .staIzy _ => 0x91#8
  | .shaIzy _ => 0x93#8
  | .styZpx _ => 0x94#8
  | .staZpx _ => 0x95#8
  | .stxZpy _ => 0x96#8
  | .saxZpy _ => 0x97#8
  | .tya => 0x98#8
  | .staAby _ => 0x99#8
  | .txs => 0x9A#8
  | .tasAby _ => 0x9B#8
  | .shyAbx _ => 0x9C#8
  | .staAbx _ => 0x9D#8
  | .shxAby _ => 0x9E#8
  | .shaAby _ => 0x9F#8
  | .ldyImm _ => 0xA0#8
  | .ldaIzx _ => 0xA1#8
  | .ldxImm _ => 0xA2#8
  | .laxIzx _ => 0xA3#8
  | .ldyZp _ => 0xA4#8
  | .ldaZp _ => 0xA5#8
  | .ldxZp _ => 0xA6#8
  | .laxZp _ => 0xA7#8
  | .tay => 0xA8#8
  | .ldaImm _ => 0xA9#8
  | .tax => 0xAA#8
  | .lxaImm _ => 0xAB#8
  | .ldyAbs _ => 0xAC#8
  | .ldaAbs _ => 0xAD#8
  | .ldxAbs _ => 0xAE#8
  | .laxAbs _ => 0xAF#8
  | .bcs _ => 0xB0#8
  | .ldaIzy _ => 0xB1#8
  | .laxIzy _ => 0xB3#8
  | .ldyZpx _ => 0xB4#8
  | .ldaZpx _ => 0xB5#8
  | .ldxZpy _ => 0xB6#8
  | .laxZpy _ => 0xB7#8
  | .clv => 0xB8#8
  | .ldaAby _ => 0xB9#8
  | .tsx => 0xBA#8
  | .lasAby _ => 0xBB#8
  | .ldyAbx _ => 0xBC#8
  | .ldaAbx _ => 0xBD#8
  | .ldxAby _ => 0xBE#8
  | .laxAby _ => 0xBF#8
  | .cpyImm _ => 0xC0#8
  | .cmpIzx _ => 0xC1#8
  | .dcpIzx _ => 0xC3#8
  | .cpyZp _ => 0xC4#8
  | .cmpZp _ => 0xC5#8
  | .decZp _ => 0xC6#8
  | .dcpZp _ => 0xC7#8
  | .iny => 0xC8#8
  | .cmpImm _ => 0xC9#8
  | .dex => 0xCA#8
  | .axsImm _ => 0xCB#8
  | .cpyAbs _ => 0xCC#8
  | .cmpAbs _ => 0xCD#8
  | .decAbs _ => 0xCE#8
  | .dcpAbs _ => 0xCF#8
  | .bne _ => 0xD0#8
  | .cmpIzy _ => 0xD1#8
  | .dcpIzy _ => 0xD3#8
  | .cmpZpx _ => 0xD5#8
  | .decZpx _ => 0xD6#8
  | .dcpZpx _ => 0xD7#8
  | .cld => 0xD8#8
  | .cmpAby _ => 0xD9#8
  | .dcpAby _ => 0xDB#8
  | .cmpAbx _ => 0xDD#8
  | .decAbx _ => 0xDE#8
  | .dcpAbx _ => 0xDF#8
  | .cpxImm _ => 0xE0#8
  | .sbcIzx _ => 0xE1#8
  | .iscIzx _ => 0xE3#8
  | .cpxZp _ => 0xE4#8
  | .sbcZp _ => 0xE5#8
  | .incZp _ => 0xE6#8
  | .iscZp _ => 0xE7#8
  | .inx => 0xE8#8
  | .sbcImm _ => 0xE9#8
  | .nop => 0xEA#8
  | .usbcImm _ => 0xEB#8
  | .cpxAbs _ => 0xEC#8
  | .sbcAbs _ => 0xED#8
  | .incAbs _ => 0xEE#8
  | .iscAbs _ => 0xEF#8
  | .beq _ => 0xF0#8
  | .sbcIzy _ => 0xF1#8
  | .iscIzy _ => 0xF3#8
  | .sbcZpx _ => 0xF5#8
  | .incZpx _ => 0xF6#8
  | .iscZpx _ => 0xF7#8
  | .sed => 0xF8#8
  | .sbcAby _ => 0xF9#8
  | .iscAby _ => 0xFB#8
  | .sbcAbx _ => 0xFD#8
  | .incAbx _ => 0xFE#8
  | .iscAbx _ => 0xFF#8

/-- The operand bytes of a mode, in memory order: the low byte of a word first (R130 F1, F2, F3). -/
def Mode.bytes : Mode → List Byte
  | .imp | .acc => []
  | .imm v => [v]
  | .zp z | .zpx z | .zpy z | .izx z | .izy z => [z]
  | .rel off => [off]
  | .abs a | .abx a | .aby a | .ind a => [lo a, hi a]

/-- The length of an instruction is a function of its mode alone (R130). -/
def Mode.length : Mode → Nat
  | .imp | .acc => 1
  | .imm _ | .zp _ | .zpx _ | .zpy _ | .izx _ | .izy _ | .rel _ => 2
  | .abs _ | .abx _ | .aby _ | .ind _ => 3

/-- The length in bytes of an instruction, R130. -/
def Instr.length (i : Instr) : Nat := i.mode.length

/-- The length in bytes that an opcode byte announces; the operand bytes do not matter (R130). -/
def opLength (op : Byte) : Nat := (decodeOp op 0#8 0#8).length

/-- The bytes of an instruction at increasing addresses (R130). -/
def encode (i : Instr) : List Byte := i.opcode :: i.mode.bytes

/-- Why a list of bytes is no instruction: it is empty, or it ends before the instruction its opcode
byte announces. -/
inductive DecodeError
  /-- There is no opcode byte. -/
  | noBytes
  /-- The opcode byte announces more operand bytes than there are. -/
  | truncated (opcode : Byte)
deriving DecidableEq, Repr

/-- The instruction at the head of a list of bytes, and the bytes after it. -/
def decode : List Byte → Except DecodeError (Instr × List Byte)
  | [] => .error .noBytes
  | op :: rest =>
    match opLength op, rest with
    | 1, r => .ok (decodeOp op 0#8 0#8, r)
    | 2, b1 :: r => .ok (decodeOp op b1 0#8, r)
    | 3, b1 :: b2 :: r => .ok (decodeOp op b1 b2, r)
    | _, _ => .error (.truncated op)

/-- Byte `k` of a number read as bytes at increasing addresses, bit 0 the least significant bit of the
first. -/
def tableByte (w k : Nat) : Byte := BitVec.ofNat 8 (w / 256 ^ k)

/-- The instruction the decoder reads from the `nbits` low bits of `w`, laid out as the opcode table
numbers them (bit 0 of the opcode byte first) and followed by zero bytes. -/
def decodeTableWord (nbits w : Nat) : Option Instr :=
  let w := w % 2 ^ nbits
  match decode [tableByte w 0, tableByte w 1, tableByte w 2] with
  | .ok (i, _) => some i
  | .error _ => none

end Sys2Proof
end

