-- ==== Sys2Proof/Machine/Flags.lean ====
section
/-! DEFINITION. Every flag computation of the CPU: `setZN` (R7), the status byte (R27), `adc_core` and `compare` (R230),
the shift helpers (R250). Each maps a `Cpu` to a `Cpu`. -/
namespace Sys2Proof.Machine

/-- `setZN(v)` of R7: Z from zero, N from bit 7. -/
def Cpu.setZN (v : Byte) (c : Cpu) : Cpu := { c with z := decide (v = 0#8), n := v.getLsbD 7 }

/-- `packP(b)` of R27: the status byte that is pushed. -/
def Cpu.packP (b : Bool) (c : Cpu) : Byte :=
  BitVec.ofBool c.n ++ (BitVec.ofBool c.v ++ (1#1 ++ (BitVec.ofBool b ++
    (BitVec.ofBool c.d ++ (BitVec.ofBool c.i ++ (BitVec.ofBool c.z ++ BitVec.ofBool c.c))))))

/-- `unpackP(v)` of R27: bits 5 and 4 are ignored. -/
def Cpu.unpackP (p : Byte) (c : Cpu) : Cpu :=
  { c with
    n := p.getLsbD 7, v := p.getLsbD 6, d := p.getLsbD 3
    i := p.getLsbD 2, z := p.getLsbD 1, c := p.getLsbD 0 }

/-- The unbounded sum of `adc_core` (R230): A, the operand and the carry in. -/
def Cpu.adcSum (m : Byte) (c : Cpu) : Nat := c.a.toNat + m.toNat + c.c.toNat

/-- `adc_core(m)` of R230; D is not read (R231). -/
def Cpu.adcCore (m : Byte) (c : Cpu) : Cpu :=
  let r := BitVec.ofNat 8 (c.adcSum m)
  { c with
    v := (~~~(c.a ^^^ m) &&& (c.a ^^^ r)).getLsbD 7
    c := decide (0xFF < c.adcSum m)
    a := r }.setZN r

/-- `compare(r, m)` of R230: no register changes, and not V. -/
def Cpu.compareWith (r m : Byte) (c : Cpu) : Cpu :=
  { c with c := decide (m.toNat ≤ r.toNat), z := decide (r = m), n := (r - m).getLsbD 7 }

/-- `asl` of R250. -/
def Cpu.asl (v : Byte) (c : Cpu) : Byte × Cpu :=
  let r := v <<< 1
  (r, { c with c := v.getLsbD 7 }.setZN r)

/-- `lsr` of R250. -/
def Cpu.lsr (v : Byte) (c : Cpu) : Byte × Cpu :=
  let r := v >>> 1
  (r, { c with c := v.getLsbD 0 }.setZN r)

/-- `rol` of R250: the old carry enters bit 0. -/
def Cpu.rol (v : Byte) (c : Cpu) : Byte × Cpu :=
  let r := (v <<< 1) ||| flagByte c.c
  (r, { c with c := v.getLsbD 7 }.setZN r)

/-- `ror` of R250: the old carry enters bit 7. -/
def Cpu.ror (v : Byte) (c : Cpu) : Byte × Cpu :=
  let r := (v >>> 1) ||| (flagByte c.c <<< 7)
  (r, { c with c := v.getLsbD 0 }.setZN r)

end Sys2Proof.Machine
end

