-- ==== Sys2Proof/Machine/Ops.lean ====
section
/-! DEFINITION. The named operations the meanings share: the stack (R24), taking an exception (R275, R710) and returning
from one (R274), fetching an instruction's bytes (R25, R130), and the end of a CPU step (R131 step 7). -/
namespace Sys2Proof.Machine

/-- The state with its CPU changed by `f`. -/
def State.mapCpu (f : Cpu → Cpu) (s : State) : State := { s with cpu := f s.cpu }

/-- The state with PC set. -/
def State.setPc (a : Addr) (s : State) : State := { s with cpu := { s.cpu with pc := a } }

/-- The end of a CPU step that returns `n` cycles. -/
def finish (n : Nat) (s : State) : Host.Outcome State Fault Refusal := .next { s with cpuReturn := n }

/-- The address `0x0100 | S` (R22). -/
def stackAddr (sp : Byte) : Addr := word 0x01#8 sp

/-- `push(v)` of R24. -/
def push (v : Byte) (s : State) : State :=
  (memWrite (stackAddr s.cpu.s) v s).mapCpu fun c => { c with s := c.s - 1#8 }

/-- A 16-bit value pushed, high byte first (R24). -/
def pushWord (w : Addr) (s : State) : State := push (lo w) (push (hi w) s)

/-- `pull()` of R24. -/
def pull (s : State) : Byte × State :=
  memRead (stackAddr (s.cpu.s + 1#8)) (s.mapCpu fun c => { c with s := c.s + 1#8 })

/-- A 16-bit value pulled, low byte first (R24). -/
def pullWord (s : State) : Addr × State :=
  let l := pull s
  let h := pull l.2
  (word h.1 l.1, h.2)

/-- A 16-bit value read from two consecutive addresses, low byte first (R110). -/
def readVector (vec : Addr) (s : State) : Addr × State :=
  let l := memRead vec s
  let h := memRead (vec + 1#16) l.2
  (word h.1 l.1, h.2)

/-- The NMI vector (R702). -/
def nmiVector : Addr := 0xFFFA#16
/-- The RESET vector (R702). -/
def resetVector : Addr := 0xFFFC#16
/-- The vector that IRQ and BRK share (R702). -/
def irqVector : Addr := 0xFFFE#16

/-- Taking an exception, the one sequence of NMI, IRQ and BRK (R710, R275): push the return address and the status byte
with break bit `b`, set I, load PC from `vec`. -/
def takeException (ret : Addr) (b : Bool) (vec : Addr) (s : State) : State :=
  let s := pushWord ret s
  let s := push (s.cpu.packP b) s
  let r := readVector vec (s.mapCpu fun c => { c with i := true })
  r.2.setPc r.1

/-- The return from an exception (R274, R713). -/
def returnFromException (s : State) : State :=
  let p := pull s
  let r := pullWord (p.2.mapCpu (Cpu.unpackP p.1))
  r.2.setPc r.1

/-- The bytes of the instruction at PC read through the Bus: opcode first, then as many operand bytes as its mode has, in
increasing address order modulo 65536 (R25, R130). PC itself does not move yet. -/
def fetchInstr (s : State) : Instr × State :=
  let op := memRead s.cpu.pc s
  match opLength op.1 with
  | 1 => (decodeOp op.1 0#8 0#8, op.2)
  | 2 =>
    let b1 := memRead (s.cpu.pc + 1#16) op.2
    (decodeOp op.1 b1.1 0#8, b1.2)
  | _ =>
    let b1 := memRead (s.cpu.pc + 1#16) op.2
    let b2 := memRead (s.cpu.pc + 2#16) b1.2
    (decodeOp op.1 b1.1 b2.1, b2.2)

end Sys2Proof.Machine
end

