-- ==== Sys2Proof/Machine/Operands.lean ====
section
/-! DEFINITION. The addressing modes (R132 to R144), and the shapes of instruction that use them: one read, one write, one
read then one write of the same address, no access, branch, jump. The operand bytes have been fetched and stand in the
mode; at the start PC is still the address of the opcode byte (`pc0`). Every shape moves PC past the instruction before
the operation (R131 step 5), performs exactly the accesses its rule writes (R200; D10 allows no other), and returns the cycles. -/
namespace Sys2Proof.Machine

/-- What an addressing mode yields (R131 step 4): the effective address, the address before indexing, and whether the two
lie in different pages. -/
structure Resolved where
  ea : Addr
  base : Addr
  crossed : Bool
deriving DecidableEq, Repr

/-- An address that was not indexed across pages. -/
def Resolved.plain (a : Addr) : Resolved := { ea := a, base := a, crossed := false }

/-- A 16-bit base indexed by a byte, modulo 65536 (R139). -/
def Resolved.indexed (base : Addr) (index : Byte) : Resolved :=
  let ea := base + zext16 index
  { ea := ea, base := base, crossed := pageDiffers ea base }

/-- A 16-bit pointer in page zero; its second byte wraps inside the page (R142, R143). -/
def zeroPagePointer (z : Byte) (s : State) : Addr × State :=
  let l := memRead (zext16 z) s
  let h := memRead (zext16 (z + 1#8)) l.2
  (word h.1 l.1, h.2)

/-- The pointer of JMP indirect; its second byte comes from the same page (R141). -/
def indirectPointer (p : Addr) (s : State) : Addr × State :=
  let l := memRead p s
  let h := memRead (word (hi p) (lo p + 1#8)) l.2
  (word h.1 l.1, h.2)

/-- The address rule of every mode (R132 to R144), with the pointer reads it performs. IMP and ACC yield no address; what
stands for it is read by no meaning. -/
def resolve (m : Mode) (s : State) : Resolved × State :=
  match m with
  | .imp | .acc => (Resolved.plain s.cpu.pc, s)
  | .imm _ => (Resolved.plain (s.cpu.pc + 1#16), s)
  | .zp z => (Resolved.plain (zext16 z), s)
  | .zpx z => (Resolved.plain (zext16 (z + s.cpu.x)), s)
  | .zpy z => (Resolved.plain (zext16 (z + s.cpu.y)), s)
  | .abs a => (Resolved.plain a, s)
  | .abx a => (Resolved.indexed a s.cpu.x, s)
  | .aby a => (Resolved.indexed a s.cpu.y, s)
  | .ind p =>
    let r := indirectPointer p s
    (Resolved.plain r.1, r.2)
  | .izx z =>
    let r := zeroPagePointer (z + s.cpu.x) s
    (Resolved.plain r.1, r.2)
  | .izy z =>
    let r := zeroPagePointer z s
    (Resolved.indexed r.1 r.2.cpu.y, r.2)
  | .rel off =>
    let next := s.cpu.pc + 2#16
    ({ ea := next + sext16 off, base := next, crossed := pageDiffers (next + sext16 off) next }, s)

/-- Steps 4 and 5 of R131: the operand is resolved, then PC moves past the instruction. -/
def operand (m : Mode) (s : State) : Resolved × State :=
  let r := resolve m s
  (r.1, r.2.setPc (r.2.cpu.pc + BitVec.ofNat 16 m.length))

/-- `M`, the one read of an operand (R200). The immediate byte was read at the fetch (R134). -/
def loadOperand (m : Mode) (ea : Addr) (s : State) : Byte × State :=
  match m with
  | .imm v => (v, s)
  | _ => memRead ea s

/-- The cycles of R131 step 7: one more when the opcode's row has the page-cross penalty and the index crossed. -/
def cost (base : Nat) (penalty crossed : Bool) : Nat := base + (if penalty && crossed then 1 else 0)

/-- One read of the operand, then `f` on the registers (R200, R831 class read). -/
def readOp (m : Mode) (base : Nat) (penalty : Bool) (f : Byte → Cpu → Cpu) (s : State) :
    Host.Outcome State Fault Refusal :=
  let r := operand m s
  let v := loadOperand m r.1.ea r.2
  finish (cost base penalty r.1.crossed) (v.2.mapCpu (f v.1))

/-- One write of `v` of the registers (R831 class write). -/
def storeOp (m : Mode) (base : Nat) (v : Cpu → Byte) (s : State) : Host.Outcome State Fault Refusal :=
  let r := operand m s
  finish base (memWrite r.1.ea (v r.2.cpu) r.2)

/-- One read, `f` on the byte and the flags, one write of the new byte to the same address, then `g` on the registers
(R250, R300). -/
def rmwOp (m : Mode) (base : Nat) (f : Byte → Cpu → Byte × Cpu) (g : Byte → Cpu → Cpu) (s : State) :
    Host.Outcome State Fault Refusal :=
  let r := operand m s
  let l := memRead r.1.ea r.2
  let w := f l.1 l.2.cpu
  finish base ((memWrite r.1.ea w.1 { l.2 with cpu := w.2 }).mapCpu (g w.1))

/-- No access after the opcode: `f` on the registers, one byte long (R132). -/
def impliedOp (base : Nat) (f : Cpu → Cpu) (s : State) : Host.Outcome State Fault Refusal :=
  finish base ((operand .imp s).2.mapCpu f)

/-- A shift of A (R133). -/
def accOp (base : Nat) (f : Byte → Cpu → Byte × Cpu) (s : State) : Host.Outcome State Fault Refusal :=
  finish base ((operand .acc s).2.mapCpu fun c => { (f c.a c).2 with a := (f c.a c).1 })

/-- A conditional branch (R144, R276): two cycles, one more when taken, another when the target lies in another page than
the next instruction. -/
def branchOp (off : Byte) (taken : Cpu → Bool) (s : State) : Host.Outcome State Fault Refusal :=
  let r := operand (.rel off) s
  if taken r.2.cpu then finish (if r.1.crossed then 4 else 3) (r.2.setPc r.1.ea) else finish 2 r.2

/-- A jump to the effective address (R271). -/
def jumpOp (m : Mode) (base : Nat) (s : State) : Host.Outcome State Fault Refusal :=
  let r := operand m s
  finish base (r.2.setPc r.1.ea)

/-- The unstable stores (R316 to R319): `pre` on the registers, then the value `v` of the registers ANDed with the high
byte of the base plus one; when the index crossed a page the value replaces the high byte of the address. -/
def unstableStoreOp (m : Mode) (base : Nat) (pre : Cpu → Cpu) (v : Cpu → Byte) (s : State) :
    Host.Outcome State Fault Refusal :=
  let r := operand m s
  let t := r.2.mapCpu pre
  let b := v t.cpu &&& (hi r.1.base + 1#8)
  finish base (memWrite (if r.1.crossed then word b (lo r.1.ea) else r.1.ea) b t)

end Sys2Proof.Machine
end

