-- ==== Sys2Proof/Machine/LoadStore.lean ====
section
/-! DEFINITION. Loads, stores and register transfers (R201 to R212): what each does to the registers, then one meaning
for each constructor. -/
namespace Sys2Proof.Machine

/-- A gets `v`, with Z and N (R201). -/
def Cpu.loadA (v : Byte) (c : Cpu) : Cpu := { c with a := v }.setZN v
/-- X gets `v`, with Z and N (R202). -/
def Cpu.loadX (v : Byte) (c : Cpu) : Cpu := { c with x := v }.setZN v
/-- Y gets `v`, with Z and N (R203). -/
def Cpu.loadY (v : Byte) (c : Cpu) : Cpu := { c with y := v }.setZN v

/-- STA IZX (0x81), R204. -/
def execStaIzx (z : Byte) (s : State) : Host.Outcome State Fault Refusal := storeOp (.izx z) 6 (fun c => c.a) s

/-- STY ZP (0x84), R206. -/
def execStyZp (z : Byte) (s : State) : Host.Outcome State Fault Refusal := storeOp (.zp z) 3 (fun c => c.y) s

/-- STA ZP (0x85), R204. -/
def execStaZp (z : Byte) (s : State) : Host.Outcome State Fault Refusal := storeOp (.zp z) 3 (fun c => c.a) s

/-- STX ZP (0x86), R205. -/
def execStxZp (z : Byte) (s : State) : Host.Outcome State Fault Refusal := storeOp (.zp z) 3 (fun c => c.x) s

/-- TXA IMP (0x8A), R209. -/
def execTxa (s : State) : Host.Outcome State Fault Refusal := impliedOp 2 (fun c => c.loadA c.x) s

/-- STY ABS (0x8C), R206. -/
def execStyAbs (a : Addr) (s : State) : Host.Outcome State Fault Refusal := storeOp (.abs a) 4 (fun c => c.y) s

/-- STA ABS (0x8D), R204. -/
def execStaAbs (a : Addr) (s : State) : Host.Outcome State Fault Refusal := storeOp (.abs a) 4 (fun c => c.a) s

/-- STX ABS (0x8E), R205. -/
def execStxAbs (a : Addr) (s : State) : Host.Outcome State Fault Refusal := storeOp (.abs a) 4 (fun c => c.x) s

/-- STA IZY (0x91), R204. -/
def execStaIzy (z : Byte) (s : State) : Host.Outcome State Fault Refusal := storeOp (.izy z) 6 (fun c => c.a) s

/-- STY ZPX (0x94), R206. -/
def execStyZpx (z : Byte) (s : State) : Host.Outcome State Fault Refusal := storeOp (.zpx z) 4 (fun c => c.y) s

/-- STA ZPX (0x95), R204. -/
def execStaZpx (z : Byte) (s : State) : Host.Outcome State Fault Refusal := storeOp (.zpx z) 4 (fun c => c.a) s

/-- STX ZPY (0x96), R205. -/
def execStxZpy (z : Byte) (s : State) : Host.Outcome State Fault Refusal := storeOp (.zpy z) 4 (fun c => c.x) s

/-- TYA IMP (0x98), R210. -/
def execTya (s : State) : Host.Outcome State Fault Refusal := impliedOp 2 (fun c => c.loadA c.y) s

/-- STA ABY (0x99), R204. -/
def execStaAby (a : Addr) (s : State) : Host.Outcome State Fault Refusal := storeOp (.aby a) 5 (fun c => c.a) s

/-- TXS IMP (0x9A), R212. -/
def execTxs (s : State) : Host.Outcome State Fault Refusal := impliedOp 2 (fun c => { c with s := c.x }) s

/-- STA ABX (0x9D), R204. -/
def execStaAbx (a : Addr) (s : State) : Host.Outcome State Fault Refusal := storeOp (.abx a) 5 (fun c => c.a) s

/-- LDY IMM (0xA0), R203. -/
def execLdyImm (v : Byte) (s : State) : Host.Outcome State Fault Refusal := readOp (.imm v) 2 false Cpu.loadY s

/-- LDA IZX (0xA1), R201. -/
def execLdaIzx (z : Byte) (s : State) : Host.Outcome State Fault Refusal := readOp (.izx z) 6 false Cpu.loadA s

/-- LDX IMM (0xA2), R202. -/
def execLdxImm (v : Byte) (s : State) : Host.Outcome State Fault Refusal := readOp (.imm v) 2 false Cpu.loadX s

/-- LDY ZP (0xA4), R203. -/
def execLdyZp (z : Byte) (s : State) : Host.Outcome State Fault Refusal := readOp (.zp z) 3 false Cpu.loadY s

/-- LDA ZP (0xA5), R201. -/
def execLdaZp (z : Byte) (s : State) : Host.Outcome State Fault Refusal := readOp (.zp z) 3 false Cpu.loadA s

/-- LDX ZP (0xA6), R202. -/
def execLdxZp (z : Byte) (s : State) : Host.Outcome State Fault Refusal := readOp (.zp z) 3 false Cpu.loadX s

/-- TAY IMP (0xA8), R208. -/
def execTay (s : State) : Host.Outcome State Fault Refusal := impliedOp 2 (fun c => c.loadY c.a) s

/-- LDA IMM (0xA9), R201. -/
def execLdaImm (v : Byte) (s : State) : Host.Outcome State Fault Refusal := readOp (.imm v) 2 false Cpu.loadA s

/-- TAX IMP (0xAA), R207. -/
def execTax (s : State) : Host.Outcome State Fault Refusal := impliedOp 2 (fun c => c.loadX c.a) s

/-- LDY ABS (0xAC), R203. -/
def execLdyAbs (a : Addr) (s : State) : Host.Outcome State Fault Refusal := readOp (.abs a) 4 false Cpu.loadY s

/-- LDA ABS (0xAD), R201. -/
def execLdaAbs (a : Addr) (s : State) : Host.Outcome State Fault Refusal := readOp (.abs a) 4 false Cpu.loadA s

/-- LDX ABS (0xAE), R202. -/
def execLdxAbs (a : Addr) (s : State) : Host.Outcome State Fault Refusal := readOp (.abs a) 4 false Cpu.loadX s

/-- LDA IZY (0xB1), R201. -/
def execLdaIzy (z : Byte) (s : State) : Host.Outcome State Fault Refusal := readOp (.izy z) 5 true Cpu.loadA s

/-- LDY ZPX (0xB4), R203. -/
def execLdyZpx (z : Byte) (s : State) : Host.Outcome State Fault Refusal := readOp (.zpx z) 4 false Cpu.loadY s

/-- LDA ZPX (0xB5), R201. -/
def execLdaZpx (z : Byte) (s : State) : Host.Outcome State Fault Refusal := readOp (.zpx z) 4 false Cpu.loadA s

/-- LDX ZPY (0xB6), R202. -/
def execLdxZpy (z : Byte) (s : State) : Host.Outcome State Fault Refusal := readOp (.zpy z) 4 false Cpu.loadX s

/-- LDA ABY (0xB9), R201. -/
def execLdaAby (a : Addr) (s : State) : Host.Outcome State Fault Refusal := readOp (.aby a) 4 true Cpu.loadA s

/-- TSX IMP (0xBA), R211. -/
def execTsx (s : State) : Host.Outcome State Fault Refusal := impliedOp 2 (fun c => c.loadX c.s) s

/-- LDY ABX (0xBC), R203. -/
def execLdyAbx (a : Addr) (s : State) : Host.Outcome State Fault Refusal := readOp (.abx a) 4 true Cpu.loadY s

/-- LDA ABX (0xBD), R201. -/
def execLdaAbx (a : Addr) (s : State) : Host.Outcome State Fault Refusal := readOp (.abx a) 4 true Cpu.loadA s

/-- LDX ABY (0xBE), R202. -/
def execLdxAby (a : Addr) (s : State) : Host.Outcome State Fault Refusal := readOp (.aby a) 4 true Cpu.loadX s

end Sys2Proof.Machine
end

