-- ==== Sys2Proof/Machine/ArithLogic.lean ====
section
/-! DEFINITION. Arithmetic, logic, compare and bit test (R231 to R239). -/
namespace Sys2Proof.Machine

/-- ADC, R231. -/
def Cpu.adc (m : Byte) (c : Cpu) : Cpu := c.adcCore m
/-- SBC, R232: addition of the complement. -/
def Cpu.sbc (m : Byte) (c : Cpu) : Cpu := c.adcCore (m ^^^ 0xFF#8)
/-- AND, R233. -/
def Cpu.and (m : Byte) (c : Cpu) : Cpu := c.loadA (c.a &&& m)
/-- ORA, R234. -/
def Cpu.ora (m : Byte) (c : Cpu) : Cpu := c.loadA (c.a ||| m)
/-- EOR, R235. -/
def Cpu.eor (m : Byte) (c : Cpu) : Cpu := c.loadA (c.a ^^^ m)
/-- CMP, R236. -/
def Cpu.cmp (m : Byte) (c : Cpu) : Cpu := c.compareWith c.a m
/-- CPX, R237. -/
def Cpu.cpx (m : Byte) (c : Cpu) : Cpu := c.compareWith c.x m
/-- CPY, R238. -/
def Cpu.cpy (m : Byte) (c : Cpu) : Cpu := c.compareWith c.y m
/-- BIT, R239: N and V from the memory byte, Z from the AND. -/
def Cpu.bit (m : Byte) (c : Cpu) : Cpu := { c with z := decide (c.a &&& m = 0#8), n := m.getLsbD 7, v := m.getLsbD 6 }

/-- ORA IZX (0x01), R234. -/
def execOraIzx (z : Byte) (s : State) : Host.Outcome State Fault Refusal := readOp (.izx z) 6 false Cpu.ora s

/-- ORA ZP (0x05), R234. -/
def execOraZp (z : Byte) (s : State) : Host.Outcome State Fault Refusal := readOp (.zp z) 3 false Cpu.ora s

/-- ORA IMM (0x09), R234. -/
def execOraImm (v : Byte) (s : State) : Host.Outcome State Fault Refusal := readOp (.imm v) 2 false Cpu.ora s

/-- ORA ABS (0x0D), R234. -/
def execOraAbs (a : Addr) (s : State) : Host.Outcome State Fault Refusal := readOp (.abs a) 4 false Cpu.ora s

/-- ORA IZY (0x11), R234. -/
def execOraIzy (z : Byte) (s : State) : Host.Outcome State Fault Refusal := readOp (.izy z) 5 true Cpu.ora s

/-- ORA ZPX (0x15), R234. -/
def execOraZpx (z : Byte) (s : State) : Host.Outcome State Fault Refusal := readOp (.zpx z) 4 false Cpu.ora s

/-- ORA ABY (0x19), R234. -/
def execOraAby (a : Addr) (s : State) : Host.Outcome State Fault Refusal := readOp (.aby a) 4 true Cpu.ora s

/-- ORA ABX (0x1D), R234. -/
def execOraAbx (a : Addr) (s : State) : Host.Outcome State Fault Refusal := readOp (.abx a) 4 true Cpu.ora s

/-- AND IZX (0x21), R233. -/
def execAndIzx (z : Byte) (s : State) : Host.Outcome State Fault Refusal := readOp (.izx z) 6 false Cpu.and s

/-- BIT ZP (0x24), R239. -/
def execBitZp (z : Byte) (s : State) : Host.Outcome State Fault Refusal := readOp (.zp z) 3 false Cpu.bit s

/-- AND ZP (0x25), R233. -/
def execAndZp (z : Byte) (s : State) : Host.Outcome State Fault Refusal := readOp (.zp z) 3 false Cpu.and s

/-- AND IMM (0x29), R233. -/
def execAndImm (v : Byte) (s : State) : Host.Outcome State Fault Refusal := readOp (.imm v) 2 false Cpu.and s

/-- BIT ABS (0x2C), R239. -/
def execBitAbs (a : Addr) (s : State) : Host.Outcome State Fault Refusal := readOp (.abs a) 4 false Cpu.bit s

/-- AND ABS (0x2D), R233. -/
def execAndAbs (a : Addr) (s : State) : Host.Outcome State Fault Refusal := readOp (.abs a) 4 false Cpu.and s

/-- AND IZY (0x31), R233. -/
def execAndIzy (z : Byte) (s : State) : Host.Outcome State Fault Refusal := readOp (.izy z) 5 true Cpu.and s

/-- AND ZPX (0x35), R233. -/
def execAndZpx (z : Byte) (s : State) : Host.Outcome State Fault Refusal := readOp (.zpx z) 4 false Cpu.and s

/-- AND ABY (0x39), R233. -/
def execAndAby (a : Addr) (s : State) : Host.Outcome State Fault Refusal := readOp (.aby a) 4 true Cpu.and s

/-- AND ABX (0x3D), R233. -/
def execAndAbx (a : Addr) (s : State) : Host.Outcome State Fault Refusal := readOp (.abx a) 4 true Cpu.and s

/-- EOR IZX (0x41), R235. -/
def execEorIzx (z : Byte) (s : State) : Host.Outcome State Fault Refusal := readOp (.izx z) 6 false Cpu.eor s

/-- EOR ZP (0x45), R235. -/
def execEorZp (z : Byte) (s : State) : Host.Outcome State Fault Refusal := readOp (.zp z) 3 false Cpu.eor s

/-- EOR IMM (0x49), R235. -/
def execEorImm (v : Byte) (s : State) : Host.Outcome State Fault Refusal := readOp (.imm v) 2 false Cpu.eor s

/-- EOR ABS (0x4D), R235. -/
def execEorAbs (a : Addr) (s : State) : Host.Outcome State Fault Refusal := readOp (.abs a) 4 false Cpu.eor s

/-- EOR IZY (0x51), R235. -/
def execEorIzy (z : Byte) (s : State) : Host.Outcome State Fault Refusal := readOp (.izy z) 5 true Cpu.eor s

/-- EOR ZPX (0x55), R235. -/
def execEorZpx (z : Byte) (s : State) : Host.Outcome State Fault Refusal := readOp (.zpx z) 4 false Cpu.eor s

/-- EOR ABY (0x59), R235. -/
def execEorAby (a : Addr) (s : State) : Host.Outcome State Fault Refusal := readOp (.aby a) 4 true Cpu.eor s

/-- EOR ABX (0x5D), R235. -/
def execEorAbx (a : Addr) (s : State) : Host.Outcome State Fault Refusal := readOp (.abx a) 4 true Cpu.eor s

/-- ADC IZX (0x61), R231. -/
def execAdcIzx (z : Byte) (s : State) : Host.Outcome State Fault Refusal := readOp (.izx z) 6 false Cpu.adc s

/-- ADC ZP (0x65), R231. -/
def execAdcZp (z : Byte) (s : State) : Host.Outcome State Fault Refusal := readOp (.zp z) 3 false Cpu.adc s

/-- ADC IMM (0x69), R231. -/
def execAdcImm (v : Byte) (s : State) : Host.Outcome State Fault Refusal := readOp (.imm v) 2 false Cpu.adc s

/-- ADC ABS (0x6D), R231. -/
def execAdcAbs (a : Addr) (s : State) : Host.Outcome State Fault Refusal := readOp (.abs a) 4 false Cpu.adc s

/-- ADC IZY (0x71), R231. -/
def execAdcIzy (z : Byte) (s : State) : Host.Outcome State Fault Refusal := readOp (.izy z) 5 true Cpu.adc s

/-- ADC ZPX (0x75), R231. -/
def execAdcZpx (z : Byte) (s : State) : Host.Outcome State Fault Refusal := readOp (.zpx z) 4 false Cpu.adc s

/-- ADC ABY (0x79), R231. -/
def execAdcAby (a : Addr) (s : State) : Host.Outcome State Fault Refusal := readOp (.aby a) 4 true Cpu.adc s

/-- ADC ABX (0x7D), R231. -/
def execAdcAbx (a : Addr) (s : State) : Host.Outcome State Fault Refusal := readOp (.abx a) 4 true Cpu.adc s

/-- CPY IMM (0xC0), R238. -/
def execCpyImm (v : Byte) (s : State) : Host.Outcome State Fault Refusal := readOp (.imm v) 2 false Cpu.cpy s

/-- CMP IZX (0xC1), R236. -/
def execCmpIzx (z : Byte) (s : State) : Host.Outcome State Fault Refusal := readOp (.izx z) 6 false Cpu.cmp s

/-- CPY ZP (0xC4), R238. -/
def execCpyZp (z : Byte) (s : State) : Host.Outcome State Fault Refusal := readOp (.zp z) 3 false Cpu.cpy s

/-- CMP ZP (0xC5), R236. -/
def execCmpZp (z : Byte) (s : State) : Host.Outcome State Fault Refusal := readOp (.zp z) 3 false Cpu.cmp s

/-- CMP IMM (0xC9), R236. -/
def execCmpImm (v : Byte) (s : State) : Host.Outcome State Fault Refusal := readOp (.imm v) 2 false Cpu.cmp s

/-- CPY ABS (0xCC), R238. -/
def execCpyAbs (a : Addr) (s : State) : Host.Outcome State Fault Refusal := readOp (.abs a) 4 false Cpu.cpy s

/-- CMP ABS (0xCD), R236. -/
def execCmpAbs (a : Addr) (s : State) : Host.Outcome State Fault Refusal := readOp (.abs a) 4 false Cpu.cmp s

/-- CMP IZY (0xD1), R236. -/
def execCmpIzy (z : Byte) (s : State) : Host.Outcome State Fault Refusal := readOp (.izy z) 5 true Cpu.cmp s

/-- CMP ZPX (0xD5), R236. -/
def execCmpZpx (z : Byte) (s : State) : Host.Outcome State Fault Refusal := readOp (.zpx z) 4 false Cpu.cmp s

/-- CMP ABY (0xD9), R236. -/
def execCmpAby (a : Addr) (s : State) : Host.Outcome State Fault Refusal := readOp (.aby a) 4 true Cpu.cmp s

/-- CMP ABX (0xDD), R236. -/
def execCmpAbx (a : Addr) (s : State) : Host.Outcome State Fault Refusal := readOp (.abx a) 4 true Cpu.cmp s

/-- CPX IMM (0xE0), R237. -/
def execCpxImm (v : Byte) (s : State) : Host.Outcome State Fault Refusal := readOp (.imm v) 2 false Cpu.cpx s

/-- SBC IZX (0xE1), R232. -/
def execSbcIzx (z : Byte) (s : State) : Host.Outcome State Fault Refusal := readOp (.izx z) 6 false Cpu.sbc s

/-- CPX ZP (0xE4), R237. -/
def execCpxZp (z : Byte) (s : State) : Host.Outcome State Fault Refusal := readOp (.zp z) 3 false Cpu.cpx s

/-- SBC ZP (0xE5), R232. -/
def execSbcZp (z : Byte) (s : State) : Host.Outcome State Fault Refusal := readOp (.zp z) 3 false Cpu.sbc s

/-- SBC IMM (0xE9), R232. -/
def execSbcImm (v : Byte) (s : State) : Host.Outcome State Fault Refusal := readOp (.imm v) 2 false Cpu.sbc s

/-- CPX ABS (0xEC), R237. -/
def execCpxAbs (a : Addr) (s : State) : Host.Outcome State Fault Refusal := readOp (.abs a) 4 false Cpu.cpx s

/-- SBC ABS (0xED), R232. -/
def execSbcAbs (a : Addr) (s : State) : Host.Outcome State Fault Refusal := readOp (.abs a) 4 false Cpu.sbc s

/-- SBC IZY (0xF1), R232. -/
def execSbcIzy (z : Byte) (s : State) : Host.Outcome State Fault Refusal := readOp (.izy z) 5 true Cpu.sbc s

/-- SBC ZPX (0xF5), R232. -/
def execSbcZpx (z : Byte) (s : State) : Host.Outcome State Fault Refusal := readOp (.zpx z) 4 false Cpu.sbc s

/-- SBC ABY (0xF9), R232. -/
def execSbcAby (a : Addr) (s : State) : Host.Outcome State Fault Refusal := readOp (.aby a) 4 true Cpu.sbc s

/-- SBC ABX (0xFD), R232. -/
def execSbcAbx (a : Addr) (s : State) : Host.Outcome State Fault Refusal := readOp (.abx a) 4 true Cpu.sbc s

end Sys2Proof.Machine
end

