-- ==== Sys2Proof/Machine/Stack.lean ====
section
/-! DEFINITION. The four stack instructions (R220 to R224). -/
namespace Sys2Proof.Machine

/-- The state after the opcode of a one-byte instruction: PC past it (R131 step 5). -/
def pastOpcode (s : State) : State := (operand .imp s).2

/-- PHP IMP (0x08), R222. -/
def execPhp (s : State) : Host.Outcome State Fault Refusal :=
  finish 3 (push ((pastOpcode s).cpu.packP true) (pastOpcode s))

/-- PLP IMP (0x28), R224. -/
def execPlp (s : State) : Host.Outcome State Fault Refusal :=
  let r := pull (pastOpcode s)
  finish 4 (r.2.mapCpu (Cpu.unpackP r.1))

/-- PHA IMP (0x48), R221. -/
def execPha (s : State) : Host.Outcome State Fault Refusal :=
  finish 3 (push (pastOpcode s).cpu.a (pastOpcode s))

/-- PLA IMP (0x68), R223. -/
def execPla (s : State) : Host.Outcome State Fault Refusal :=
  let r := pull (pastOpcode s)
  finish 4 (r.2.mapCpu (Cpu.loadA r.1))

end Sys2Proof.Machine
end

