-- ==== Sys2Proof/Machine/ControlFlow.lean ====
section
/-! DEFINITION. Jumps, subroutines, returns, BRK and branches (R270 to R284). -/
namespace Sys2Proof.Machine

/-- BRK IMP (0x00), R275. -/
def execBrk (s : State) : Host.Outcome State Fault Refusal :=
  finish 7 (takeException (s.cpu.pc + 2#16) true irqVector (pastOpcode s))

/-- BPL REL (0x10), R277. -/
def execBpl (off : Byte) (s : State) : Host.Outcome State Fault Refusal := branchOp off (fun c => !c.n) s

/-- JSR ABS (0x20), R272. -/
def execJsrAbs (a : Addr) (s : State) : Host.Outcome State Fault Refusal :=
  let r := operand (.abs a) s
  finish 6 ((pushWord (s.cpu.pc + 2#16) r.2).setPc r.1.ea)

/-- BMI REL (0x30), R278. -/
def execBmi (off : Byte) (s : State) : Host.Outcome State Fault Refusal := branchOp off (fun c => c.n) s

/-- RTI IMP (0x40), R274. -/
def execRti (s : State) : Host.Outcome State Fault Refusal :=
  finish 6 (returnFromException (pastOpcode s))

/-- JMP ABS (0x4C), R271. -/
def execJmpAbs (a : Addr) (s : State) : Host.Outcome State Fault Refusal := jumpOp (.abs a) 3 s

/-- BVC REL (0x50), R279. -/
def execBvc (off : Byte) (s : State) : Host.Outcome State Fault Refusal := branchOp off (fun c => !c.v) s

/-- RTS IMP (0x60), R273. -/
def execRts (s : State) : Host.Outcome State Fault Refusal :=
  let r := pullWord (pastOpcode s)
  finish 6 (r.2.setPc (r.1 + 1#16))

/-- JMP IND (0x6C), R271. -/
def execJmpInd (a : Addr) (s : State) : Host.Outcome State Fault Refusal := jumpOp (.ind a) 5 s

/-- BVS REL (0x70), R280. -/
def execBvs (off : Byte) (s : State) : Host.Outcome State Fault Refusal := branchOp off (fun c => c.v) s

/-- BCC REL (0x90), R281. -/
def execBcc (off : Byte) (s : State) : Host.Outcome State Fault Refusal := branchOp off (fun c => !c.c) s

/-- BCS REL (0xB0), R282. -/
def execBcs (off : Byte) (s : State) : Host.Outcome State Fault Refusal := branchOp off (fun c => c.c) s

/-- BNE REL (0xD0), R283. -/
def execBne (off : Byte) (s : State) : Host.Outcome State Fault Refusal := branchOp off (fun c => !c.z) s

/-- BEQ REL (0xF0), R284. -/
def execBeq (off : Byte) (s : State) : Host.Outcome State Fault Refusal := branchOp off (fun c => c.z) s

end Sys2Proof.Machine
end

