-- ==== Sys2Proof/Machine/FlagsNop.lean ====
section
/-! DEFINITION. The flag instructions and the official NOP (R290 to R297). -/
namespace Sys2Proof.Machine

/-- CLC IMP (0x18), R290. -/
def execClc (s : State) : Host.Outcome State Fault Refusal := impliedOp 2 (fun c => { c with c := false }) s

/-- SEC IMP (0x38), R291. -/
def execSec (s : State) : Host.Outcome State Fault Refusal := impliedOp 2 (fun c => { c with c := true }) s

/-- CLI IMP (0x58), R292. -/
def execCli (s : State) : Host.Outcome State Fault Refusal := impliedOp 2 (fun c => { c with i := false }) s

/-- SEI IMP (0x78), R293. -/
def execSei (s : State) : Host.Outcome State Fault Refusal := impliedOp 2 (fun c => { c with i := true }) s

/-- CLV IMP (0xB8), R296. -/
def execClv (s : State) : Host.Outcome State Fault Refusal := impliedOp 2 (fun c => { c with v := false }) s

/-- CLD IMP (0xD8), R294. -/
def execCld (s : State) : Host.Outcome State Fault Refusal := impliedOp 2 (fun c => { c with d := false }) s

/-- NOP IMP (0xEA), R297. -/
def execNop (s : State) : Host.Outcome State Fault Refusal := impliedOp 2 (fun c => c) s

/-- SED IMP (0xF8), R295. -/
def execSed (s : State) : Host.Outcome State Fault Refusal := impliedOp 2 (fun c => { c with d := true }) s

end Sys2Proof.Machine
end

