-- ==== Sys2Proof/Machine/ShiftIncDec.lean ====
section
/-! DEFINITION. Shifts, rotates, increments and decrements (R251 to R260). The memory forms read once and write once. -/
namespace Sys2Proof.Machine

/-- The registers as they are: what a plain shift does after its write. -/
def Cpu.keep (_r : Byte) (c : Cpu) : Cpu := c
/-- The new byte of INC and ISC; the flags follow the write (R255). -/
def Cpu.incByte (m : Byte) (c : Cpu) : Byte × Cpu := (m + 1#8, c)
/-- The new byte of DEC and DCP; the flags follow the write (R256). -/
def Cpu.decByte (m : Byte) (c : Cpu) : Byte × Cpu := (m - 1#8, c)

/-- ASL ZP (0x06), R251. -/
def execAslZp (z : Byte) (s : State) : Host.Outcome State Fault Refusal := rmwOp (.zp z) 5 Cpu.asl Cpu.keep s

/-- ASL ACC (0x0A), R251. -/
def execAslAcc (s : State) : Host.Outcome State Fault Refusal := accOp 2 Cpu.asl s

/-- ASL ABS (0x0E), R251. -/
def execAslAbs (a : Addr) (s : State) : Host.Outcome State Fault Refusal := rmwOp (.abs a) 6 Cpu.asl Cpu.keep s

/-- ASL ZPX (0x16), R251. -/
def execAslZpx (z : Byte) (s : State) : Host.Outcome State Fault Refusal := rmwOp (.zpx z) 6 Cpu.asl Cpu.keep s

/-- ASL ABX (0x1E), R251. -/
def execAslAbx (a : Addr) (s : State) : Host.Outcome State Fault Refusal := rmwOp (.abx a) 7 Cpu.asl Cpu.keep s

/-- ROL ZP (0x26), R253. -/
def execRolZp (z : Byte) (s : State) : Host.Outcome State Fault Refusal := rmwOp (.zp z) 5 Cpu.rol Cpu.keep s

/-- ROL ACC (0x2A), R253. -/
def execRolAcc (s : State) : Host.Outcome State Fault Refusal := accOp 2 Cpu.rol s

/-- ROL ABS (0x2E), R253. -/
def execRolAbs (a : Addr) (s : State) : Host.Outcome State Fault Refusal := rmwOp (.abs a) 6 Cpu.rol Cpu.keep s

/-- ROL ZPX (0x36), R253. -/
def execRolZpx (z : Byte) (s : State) : Host.Outcome State Fault Refusal := rmwOp (.zpx z) 6 Cpu.rol Cpu.keep s

/-- ROL ABX (0x3E), R253. -/
def execRolAbx (a : Addr) (s : State) : Host.Outcome State Fault Refusal := rmwOp (.abx a) 7 Cpu.rol Cpu.keep s

/-- LSR ZP (0x46), R252. -/
def execLsrZp (z : Byte) (s : State) : Host.Outcome State Fault Refusal := rmwOp (.zp z) 5 Cpu.lsr Cpu.keep s

/-- LSR ACC (0x4A), R252. -/
def execLsrAcc (s : State) : Host.Outcome State Fault Refusal := accOp 2 Cpu.lsr s

/-- LSR ABS (0x4E), R252. -/
def execLsrAbs (a : Addr) (s : State) : Host.Outcome State Fault Refusal := rmwOp (.abs a) 6 Cpu.lsr Cpu.keep s

/-- LSR ZPX (0x56), R252. -/
def execLsrZpx (z : Byte) (s : State) : Host.Outcome State Fault Refusal := rmwOp (.zpx z) 6 Cpu.lsr Cpu.keep s

/-- LSR ABX (0x5E), R252. -/
def execLsrAbx (a : Addr) (s : State) : Host.Outcome State Fault Refusal := rmwOp (.abx a) 7 Cpu.lsr Cpu.keep s

/-- ROR ZP (0x66), R254. -/
def execRorZp (z : Byte) (s : State) : Host.Outcome State Fault Refusal := rmwOp (.zp z) 5 Cpu.ror Cpu.keep s

/-- ROR ACC (0x6A), R254. -/
def execRorAcc (s : State) : Host.Outcome State Fault Refusal := accOp 2 Cpu.ror s

/-- ROR ABS (0x6E), R254. -/
def execRorAbs (a : Addr) (s : State) : Host.Outcome State Fault Refusal := rmwOp (.abs a) 6 Cpu.ror Cpu.keep s

/-- ROR ZPX (0x76), R254. -/
def execRorZpx (z : Byte) (s : State) : Host.Outcome State Fault Refusal := rmwOp (.zpx z) 6 Cpu.ror Cpu.keep s

/-- ROR ABX (0x7E), R254. -/
def execRorAbx (a : Addr) (s : State) : Host.Outcome State Fault Refusal := rmwOp (.abx a) 7 Cpu.ror Cpu.keep s

/-- DEY IMP (0x88), R260. -/
def execDey (s : State) : Host.Outcome State Fault Refusal := impliedOp 2 (fun c => c.loadY (c.y - 1#8)) s

/-- DEC ZP (0xC6), R256. -/
def execDecZp (z : Byte) (s : State) : Host.Outcome State Fault Refusal := rmwOp (.zp z) 5 Cpu.decByte Cpu.setZN s

/-- INY IMP (0xC8), R258. -/
def execIny (s : State) : Host.Outcome State Fault Refusal := impliedOp 2 (fun c => c.loadY (c.y + 1#8)) s

/-- DEX IMP (0xCA), R259. -/
def execDex (s : State) : Host.Outcome State Fault Refusal := impliedOp 2 (fun c => c.loadX (c.x - 1#8)) s

/-- DEC ABS (0xCE), R256. -/
def execDecAbs (a : Addr) (s : State) : Host.Outcome State Fault Refusal := rmwOp (.abs a) 6 Cpu.decByte Cpu.setZN s

/-- DEC ZPX (0xD6), R256. -/
def execDecZpx (z : Byte) (s : State) : Host.Outcome State Fault Refusal := rmwOp (.zpx z) 6 Cpu.decByte Cpu.setZN s

/-- DEC ABX (0xDE), R256. -/
def execDecAbx (a : Addr) (s : State) : Host.Outcome State Fault Refusal := rmwOp (.abx a) 7 Cpu.decByte Cpu.setZN s

/-- INC ZP (0xE6), R255. -/
def execIncZp (z : Byte) (s : State) : Host.Outcome State Fault Refusal := rmwOp (.zp z) 5 Cpu.incByte Cpu.setZN s

/-- INX IMP (0xE8), R257. -/
def execInx (s : State) : Host.Outcome State Fault Refusal := impliedOp 2 (fun c => c.loadX (c.x + 1#8)) s

/-- INC ABS (0xEE), R255. -/
def execIncAbs (a : Addr) (s : State) : Host.Outcome State Fault Refusal := rmwOp (.abs a) 6 Cpu.incByte Cpu.setZN s

/-- INC ZPX (0xF6), R255. -/
def execIncZpx (z : Byte) (s : State) : Host.Outcome State Fault Refusal := rmwOp (.zpx z) 6 Cpu.incByte Cpu.setZN s

/-- INC ABX (0xFE), R255. -/
def execIncAbx (a : Addr) (s : State) : Host.Outcome State Fault Refusal := rmwOp (.abx a) 7 Cpu.incByte Cpu.setZN s

end Sys2Proof.Machine
end

