-- ==== Sys2Proof/Machine/Unofficial.lean ====
section
/-! DEFINITION. The 105 unofficial opcodes (R300 to R322). -/
namespace Sys2Proof.Machine

/-- LAX, R306. -/
def Cpu.lax (m : Byte) (c : Cpu) : Cpu := { c with a := m, x := m }.setZN m
/-- ANC, R309. -/
def Cpu.anc (m : Byte) (c : Cpu) : Cpu := { c.and m with c := (c.and m).n }
/-- ALR, R310. -/
def Cpu.alr (m : Byte) (c : Cpu) : Cpu :=
  let r := c.lsr (c.a &&& m)
  { r.2 with a := r.1 }
/-- ARR, R311: the new C and V come from the result. -/
def Cpu.arr (m : Byte) (c : Cpu) : Cpu :=
  let r := ((c.a &&& m) >>> 1) ||| (flagByte c.c <<< 7)
  { c.loadA r with c := r.getLsbD 6, v := r.getLsbD 6 ^^ r.getLsbD 5 }
/-- XAA, R312, with the parameter `XAA_MAGIC`. -/
def Cpu.xaa (magic m : Byte) (c : Cpu) : Cpu := c.loadA ((c.a ||| magic) &&& c.x &&& m)
/-- LXA, R313, with the parameter `LXA_MAGIC`. -/
def Cpu.lxa (magic m : Byte) (c : Cpu) : Cpu := c.lax ((c.a ||| magic) &&& m)
/-- AXS, R314: no borrow comes in, and V stays. -/
def Cpu.axs (m : Byte) (c : Cpu) : Cpu :=
  let t := c.a &&& c.x
  { c with c := decide (m.toNat ≤ t.toNat), x := t - m }.setZN (t - m)
/-- LAS, R320. -/
def Cpu.las (m : Byte) (c : Cpu) : Cpu :=
  let r := m &&& c.s
  { c with a := r, x := r, s := r }.setZN r
/-- The registers after the discarded read of a NOP (R322). -/
def Cpu.nopRead (_m : Byte) (c : Cpu) : Cpu := c
/-- The S of TAS (R319). -/
def Cpu.tasS (c : Cpu) : Cpu := { c with s := c.a &&& c.x }

/-- JAM, R321: under `halt` PC moves past the opcode and the CPU is jammed; under `nop` only PC moves. -/
def jamOp (s : State) : Host.Outcome State Fault Refusal :=
  match s.cfg.jamPolicy with
  | .halt => impliedOp 2 (fun c => { c with jammed := true }) s
  | .nop => impliedOp 2 (fun c => c) s

/-- JAM IMP (0x02, 0x12, 0x22, 0x32, 0x42, 0x52, 0x62, 0x72, 0x92, 0xB2, 0xD2, 0xF2), R321. -/
def execJam (_k : JamByte) (s : State) : Host.Outcome State Fault Refusal := jamOp s

/-- SLO IZX (0x03), R301. -/
def execSloIzx (z : Byte) (s : State) : Host.Outcome State Fault Refusal := rmwOp (.izx z) 8 Cpu.asl Cpu.ora s

/-- NOP ZP (0x04, 0x44, 0x64), R322. -/
def execNopZp (_k : NopZpByte) (z : Byte) (s : State) : Host.Outcome State Fault Refusal :=
  readOp (.zp z) 3 false Cpu.nopRead s

/-- SLO ZP (0x07), R301. -/
def execSloZp (z : Byte) (s : State) : Host.Outcome State Fault Refusal := rmwOp (.zp z) 5 Cpu.asl Cpu.ora s

/-- ANC IMM (0x0B, 0x2B), R309. -/
def execAncImm (_k : AncImmByte) (v : Byte) (s : State) : Host.Outcome State Fault Refusal :=
  readOp (.imm v) 2 false Cpu.anc s

/-- NOP ABS (0x0C), R322. -/
def execNopAbs (a : Addr) (s : State) : Host.Outcome State Fault Refusal := readOp (.abs a) 4 false Cpu.nopRead s

/-- SLO ABS (0x0F), R301. -/
def execSloAbs (a : Addr) (s : State) : Host.Outcome State Fault Refusal := rmwOp (.abs a) 6 Cpu.asl Cpu.ora s

/-- SLO IZY (0x13), R301. -/
def execSloIzy (z : Byte) (s : State) : Host.Outcome State Fault Refusal := rmwOp (.izy z) 8 Cpu.asl Cpu.ora s

/-- NOP ZPX (0x14, 0x34, 0x54, 0x74, 0xD4, 0xF4), R322. -/
def execNopZpx (_k : NopZpxByte) (z : Byte) (s : State) : Host.Outcome State Fault Refusal :=
  readOp (.zpx z) 4 false Cpu.nopRead s

/-- SLO ZPX (0x17), R301. -/
def execSloZpx (z : Byte) (s : State) : Host.Outcome State Fault Refusal := rmwOp (.zpx z) 6 Cpu.asl Cpu.ora s

/-- NOP IMP (0x1A, 0x3A, 0x5A, 0x7A, 0xDA, 0xFA), R322. -/
def execNopImp (_k : NopImpByte) (s : State) : Host.Outcome State Fault Refusal := impliedOp 2 (fun c => c) s

/-- SLO ABY (0x1B), R301. -/
def execSloAby (a : Addr) (s : State) : Host.Outcome State Fault Refusal := rmwOp (.aby a) 7 Cpu.asl Cpu.ora s

/-- NOP ABX (0x1C, 0x3C, 0x5C, 0x7C, 0xDC, 0xFC), R322. -/
def execNopAbx (_k : NopAbxByte) (a : Addr) (s : State) : Host.Outcome State Fault Refusal :=
  readOp (.abx a) 4 true Cpu.nopRead s

/-- SLO ABX (0x1F), R301. -/
def execSloAbx (a : Addr) (s : State) : Host.Outcome State Fault Refusal := rmwOp (.abx a) 7 Cpu.asl Cpu.ora s

/-- RLA IZX (0x23), R302. -/
def execRlaIzx (z : Byte) (s : State) : Host.Outcome State Fault Refusal := rmwOp (.izx z) 8 Cpu.rol Cpu.and s

/-- RLA ZP (0x27), R302. -/
def execRlaZp (z : Byte) (s : State) : Host.Outcome State Fault Refusal := rmwOp (.zp z) 5 Cpu.rol Cpu.and s

/-- RLA ABS (0x2F), R302. -/
def execRlaAbs (a : Addr) (s : State) : Host.Outcome State Fault Refusal := rmwOp (.abs a) 6 Cpu.rol Cpu.and s

/-- RLA IZY (0x33), R302. -/
def execRlaIzy (z : Byte) (s : State) : Host.Outcome State Fault Refusal := rmwOp (.izy z) 8 Cpu.rol Cpu.and s

/-- RLA ZPX (0x37), R302. -/
def execRlaZpx (z : Byte) (s : State) : Host.Outcome State Fault Refusal := rmwOp (.zpx z) 6 Cpu.rol Cpu.and s

/-- RLA ABY (0x3B), R302. -/
def execRlaAby (a : Addr) (s : State) : Host.Outcome State Fault Refusal := rmwOp (.aby a) 7 Cpu.rol Cpu.and s

/-- RLA ABX (0x3F), R302. -/
def execRlaAbx (a : Addr) (s : State) : Host.Outcome State Fault Refusal := rmwOp (.abx a) 7 Cpu.rol Cpu.and s

/-- SRE IZX (0x43), R303. -/
def execSreIzx (z : Byte) (s : State) : Host.Outcome State Fault Refusal := rmwOp (.izx z) 8 Cpu.lsr Cpu.eor s

/-- SRE ZP (0x47), R303. -/
def execSreZp (z : Byte) (s : State) : Host.Outcome State Fault Refusal := rmwOp (.zp z) 5 Cpu.lsr Cpu.eor s

/-- ALR IMM (0x4B), R310. -/
def execAlrImm (v : Byte) (s : State) : Host.Outcome State Fault Refusal := readOp (.imm v) 2 false Cpu.alr s

/-- SRE ABS (0x4F), R303. -/
def execSreAbs (a : Addr) (s : State) : Host.Outcome State Fault Refusal := rmwOp (.abs a) 6 Cpu.lsr Cpu.eor s

/-- SRE IZY (0x53), R303. -/
def execSreIzy (z : Byte) (s : State) : Host.Outcome State Fault Refusal := rmwOp (.izy z) 8 Cpu.lsr Cpu.eor s

/-- SRE ZPX (0x57), R303. -/
def execSreZpx (z : Byte) (s : State) : Host.Outcome State Fault Refusal := rmwOp (.zpx z) 6 Cpu.lsr Cpu.eor s

/-- SRE ABY (0x5B), R303. -/
def execSreAby (a : Addr) (s : State) : Host.Outcome State Fault Refusal := rmwOp (.aby a) 7 Cpu.lsr Cpu.eor s

/-- SRE ABX (0x5F), R303. -/
def execSreAbx (a : Addr) (s : State) : Host.Outcome State Fault Refusal := rmwOp (.abx a) 7 Cpu.lsr Cpu.eor s

/-- RRA IZX (0x63), R304. -/
def execRraIzx (z : Byte) (s : State) : Host.Outcome State Fault Refusal := rmwOp (.izx z) 8 Cpu.ror Cpu.adc s

/-- RRA ZP (0x67), R304. -/
def execRraZp (z : Byte) (s : State) : Host.Outcome State Fault Refusal := rmwOp (.zp z) 5 Cpu.ror Cpu.adc s

/-- ARR IMM (0x6B), R311. -/
def execArrImm (v : Byte) (s : State) : Host.Outcome State Fault Refusal := readOp (.imm v) 2 false Cpu.arr s

/-- RRA ABS (0x6F), R304. -/
def execRraAbs (a : Addr) (s : State) : Host.Outcome State Fault Refusal := rmwOp (.abs a) 6 Cpu.ror Cpu.adc s

/-- RRA IZY (0x73), R304. -/
def execRraIzy (z : Byte) (s : State) : Host.Outcome State Fault Refusal := rmwOp (.izy z) 8 Cpu.ror Cpu.adc s

/-- RRA ZPX (0x77), R304. -/
def execRraZpx (z : Byte) (s : State) : Host.Outcome State Fault Refusal := rmwOp (.zpx z) 6 Cpu.ror Cpu.adc s

/-- RRA ABY (0x7B), R304. -/
def execRraAby (a : Addr) (s : State) : Host.Outcome State Fault Refusal := rmwOp (.aby a) 7 Cpu.ror Cpu.adc s

/-- RRA ABX (0x7F), R304. -/
def execRraAbx (a : Addr) (s : State) : Host.Outcome State Fault Refusal := rmwOp (.abx a) 7 Cpu.ror Cpu.adc s

/-- NOP IMM (0x80, 0x82, 0x89, 0xC2, 0xE2), R322. -/
def execNopImm (_k : NopImmByte) (v : Byte) (s : State) : Host.Outcome State Fault Refusal :=
  readOp (.imm v) 2 false Cpu.nopRead s

/-- SAX IZX (0x83), R305. -/
def execSaxIzx (z : Byte) (s : State) : Host.Outcome State Fault Refusal :=
  storeOp (.izx z) 6 (fun c => c.a &&& c.x) s

/-- SAX ZP (0x87), R305. -/
def execSaxZp (z : Byte) (s : State) : Host.Outcome State Fault Refusal := storeOp (.zp z) 3 (fun c => c.a &&& c.x) s

/-- XAA IMM (0x8B), R312. -/
def execXaaImm (v : Byte) (s : State) : Host.Outcome State Fault Refusal :=
  readOp (.imm v) 2 false (Cpu.xaa s.cfg.xaaMagic) s

/-- SAX ABS (0x8F), R305. -/
def execSaxAbs (a : Addr) (s : State) : Host.Outcome State Fault Refusal :=
  storeOp (.abs a) 4 (fun c => c.a &&& c.x) s

/-- SHA IZY (0x93), R316. -/
def execShaIzy (z : Byte) (s : State) : Host.Outcome State Fault Refusal :=
  unstableStoreOp (.izy z) 6 id (fun c => c.a &&& c.x) s

/-- SAX ZPY (0x97), R305. -/
def execSaxZpy (z : Byte) (s : State) : Host.Outcome State Fault Refusal :=
  storeOp (.zpy z) 4 (fun c => c.a &&& c.x) s

/-- TAS ABY (0x9B), R319. -/
def execTasAby (a : Addr) (s : State) : Host.Outcome State Fault Refusal :=
  unstableStoreOp (.aby a) 5 Cpu.tasS (fun c => c.s) s

/-- SHY ABX (0x9C), R318. -/
def execShyAbx (a : Addr) (s : State) : Host.Outcome State Fault Refusal :=
  unstableStoreOp (.abx a) 5 id (fun c => c.y) s

/-- SHX ABY (0x9E), R317. -/
def execShxAby (a : Addr) (s : State) : Host.Outcome State Fault Refusal :=
  unstableStoreOp (.aby a) 5 id (fun c => c.x) s

/-- SHA ABY (0x9F), R316. -/
def execShaAby (a : Addr) (s : State) : Host.Outcome State Fault Refusal :=
  unstableStoreOp (.aby a) 5 id (fun c => c.a &&& c.x) s

/-- LAX IZX (0xA3), R306. -/
def execLaxIzx (z : Byte) (s : State) : Host.Outcome State Fault Refusal := readOp (.izx z) 6 false Cpu.lax s

/-- LAX ZP (0xA7), R306. -/
def execLaxZp (z : Byte) (s : State) : Host.Outcome State Fault Refusal := readOp (.zp z) 3 false Cpu.lax s

/-- LXA IMM (0xAB), R313. -/
def execLxaImm (v : Byte) (s : State) : Host.Outcome State Fault Refusal :=
  readOp (.imm v) 2 false (Cpu.lxa s.cfg.lxaMagic) s

/-- LAX ABS (0xAF), R306. -/
def execLaxAbs (a : Addr) (s : State) : Host.Outcome State Fault Refusal := readOp (.abs a) 4 false Cpu.lax s

/-- LAX IZY (0xB3), R306. -/
def execLaxIzy (z : Byte) (s : State) : Host.Outcome State Fault Refusal := readOp (.izy z) 5 true Cpu.lax s

/-- LAX ZPY (0xB7), R306. -/
def execLaxZpy (z : Byte) (s : State) : Host.Outcome State Fault Refusal := readOp (.zpy z) 4 false Cpu.lax s

/-- LAS ABY (0xBB), R320. -/
def execLasAby (a : Addr) (s : State) : Host.Outcome State Fault Refusal := readOp (.aby a) 4 true Cpu.las s

/-- LAX ABY (0xBF), R306. -/
def execLaxAby (a : Addr) (s : State) : Host.Outcome State Fault Refusal := readOp (.aby a) 4 true Cpu.lax s

/-- DCP IZX (0xC3), R307. -/
def execDcpIzx (z : Byte) (s : State) : Host.Outcome State Fault Refusal := rmwOp (.izx z) 8 Cpu.decByte Cpu.cmp s

/-- DCP ZP (0xC7), R307. -/
def execDcpZp (z : Byte) (s : State) : Host.Outcome State Fault Refusal := rmwOp (.zp z) 5 Cpu.decByte Cpu.cmp s

/-- AXS IMM (0xCB), R314. -/
def execAxsImm (v : Byte) (s : State) : Host.Outcome State Fault Refusal := readOp (.imm v) 2 false Cpu.axs s

/-- DCP ABS (0xCF), R307. -/
def execDcpAbs (a : Addr) (s : State) : Host.Outcome State Fault Refusal := rmwOp (.abs a) 6 Cpu.decByte Cpu.cmp s

/-- DCP IZY (0xD3), R307. -/
def execDcpIzy (z : Byte) (s : State) : Host.Outcome State Fault Refusal := rmwOp (.izy z) 8 Cpu.decByte Cpu.cmp s

/-- DCP ZPX (0xD7), R307. -/
def execDcpZpx (z : Byte) (s : State) : Host.Outcome State Fault Refusal := rmwOp (.zpx z) 6 Cpu.decByte Cpu.cmp s

/-- DCP ABY (0xDB), R307. -/
def execDcpAby (a : Addr) (s : State) : Host.Outcome State Fault Refusal := rmwOp (.aby a) 7 Cpu.decByte Cpu.cmp s

/-- DCP ABX (0xDF), R307. -/
def execDcpAbx (a : Addr) (s : State) : Host.Outcome State Fault Refusal := rmwOp (.abx a) 7 Cpu.decByte Cpu.cmp s

/-- ISC IZX (0xE3), R308. -/
def execIscIzx (z : Byte) (s : State) : Host.Outcome State Fault Refusal := rmwOp (.izx z) 8 Cpu.incByte Cpu.sbc s

/-- ISC ZP (0xE7), R308. -/
def execIscZp (z : Byte) (s : State) : Host.Outcome State Fault Refusal := rmwOp (.zp z) 5 Cpu.incByte Cpu.sbc s

/-- USBC IMM (0xEB), R315. -/
def execUsbcImm (v : Byte) (s : State) : Host.Outcome State Fault Refusal := readOp (.imm v) 2 false Cpu.sbc s

/-- ISC ABS (0xEF), R308. -/
def execIscAbs (a : Addr) (s : State) : Host.Outcome State Fault Refusal := rmwOp (.abs a) 6 Cpu.incByte Cpu.sbc s

/-- ISC IZY (0xF3), R308. -/
def execIscIzy (z : Byte) (s : State) : Host.Outcome State Fault Refusal := rmwOp (.izy z) 8 Cpu.incByte Cpu.sbc s

/-- ISC ZPX (0xF7), R308. -/
def execIscZpx (z : Byte) (s : State) : Host.Outcome State Fault Refusal := rmwOp (.zpx z) 6 Cpu.incByte Cpu.sbc s

/-- ISC ABY (0xFB), R308. -/
def execIscAby (a : Addr) (s : State) : Host.Outcome State Fault Refusal := rmwOp (.aby a) 7 Cpu.incByte Cpu.sbc s

/-- ISC ABX (0xFF), R308. -/
def execIscAbx (a : Addr) (s : State) : Host.Outcome State Fault Refusal := rmwOp (.abx a) 7 Cpu.incByte Cpu.sbc s

end Sys2Proof.Machine
end

