-- ==== Sys2Proof/Machine/PpuStep.lean ====
section
/-! DEFINITION. One dot of the PPU (R420 to R445): pixel output, background pipeline, sprites, flags, counters. A dot is
a pipeline of stages over `Ppu`, in the order of R420's outline; each stage acts on the current (scanline, dot). -/
namespace Sys2Proof.Machine

open Sys2Proof.Config

/-- "Rendering enabled" (R403). -/
def Ppu.rendering (p : Ppu) : Bool := p.mask.getLsbD 3 || p.mask.getLsbD 4

/-- The current scanline is visible (R420). -/
def Ppu.visible (p : Ppu) : Bool := decide (p.scanline ≤ 239)

/-- The current scanline is the pre-render line (R420). -/
def Ppu.preRender (p : Ppu) : Bool := decide (p.scanline = 261)

/-- The current scanline is visible or pre-render and rendering is enabled (R422). -/
def Ppu.renderLine (p : Ppu) : Bool := p.rendering && (p.visible || p.preRender)

/-! ### Pixel output -/

/-- `bg_code` of R424. -/
def Ppu.bgCode (p : Ppu) : BitVec 4 := (p.bgQueue >>> (32 + 4 * (7 - p.x.toNat))).setWidth 4

/-- The code one slot gives at column `x`; `none` where the slot does not cover `x` or is transparent there (R425). -/
def SpriteSlot.code (x : Nat) (k : SpriteSlot) : Option (SpriteSlot × BitVec 4) :=
  let c : BitVec 4 := (k.pattern >>> (4 * (7 - (x - k.x.toNat)))).setWidth 4
  if k.x.toNat ≤ x ∧ x - k.x.toNat ≤ 7 ∧ c &&& 3#4 ≠ 0#4 then some (k, c) else none

/-- `sprite_code` of R425: the lowest slot in use with an opaque pixel at column `x`. -/
def Ppu.spriteCode (p : Ppu) (x : Nat) : Option (SpriteSlot × BitVec 4) :=
  (p.spr.toList.take p.sprCount).findSome? (SpriteSlot.code x)

/-- The background code shown at column `x`: 0 where the background is hidden (R423). -/
def Ppu.shownBg (p : Ppu) (x : Nat) : BitVec 4 :=
  if !p.mask.getLsbD 3 || (decide (x < 8) && !p.mask.getLsbD 1) then 0#4 else p.bgCode

/-- The sprite code shown at column `x`: none where sprites are hidden (R423). -/
def Ppu.shownSprite (p : Ppu) (x : Nat) : Option (SpriteSlot × BitVec 4) :=
  if !p.mask.getLsbD 4 || (decide (x < 8) && !p.mask.getLsbD 2) then none else p.spriteCode x

/-- The 5-bit colour index of column `x` and whether sprite 0 hits there (R423, R426). -/
def Ppu.pixelIndex (p : Ppu) (x : Nat) : BitVec 5 × Bool :=
  if !p.rendering then (0#5, false)
  else
    let bg := p.shownBg x
    let opaqueBg := decide (bg &&& 3#4 ≠ 0#4)
    match p.shownSprite x with
    | none => (if opaqueBg then bg.setWidth 5 else 0#5, false)
    | some (k, sp) =>
      if opaqueBg then
        (if k.prio then bg.setWidth 5 else 0x10#5 ||| sp.setWidth 5, decide (k.index = 0#6) && decide (x < 255))
      else (0x10#5 ||| sp.setWidth 5, false)

/-- The 6-bit colour of a colour index, after the greyscale mask (R423, R427). -/
def Ppu.colourOf (p : Ppu) (i : BitVec 5) : BitVec 6 :=
  let c := Store.read 0#6 p.palette (palIndex (0x3F00#14 + i.setWidth 14))
  if p.mask.getLsbD 0 then c &&& 0x30#6 else c

/-- The key of pixel (x, y) in a framebuffer store. The keys run against the raster, so that a dot of the first frame is
the first cell of the list. -/
def fbKey (x y : Nat) : Nat := fbWidth * fbHeight - 1 - (y * fbWidth + x)

/-- One pixel of a framebuffer. -/
def readPixel (fb : Store Pixel) (x y : Nat) : Pixel := Store.read Pixel.black fb (fbKey x y)

/-- `output_pixel` of R423 at column `x` of scanline `y`. -/
def Ppu.outputPixel (x y : Nat) (p : Ppu) : Ppu :=
  { p with
    sprite0Hit := p.sprite0Hit || (p.pixelIndex x).2
    back := Store.write Pixel.black p.back (fbKey x y) (.colour (p.colourOf (p.pixelIndex x).1)) }

/-- The first stage of a dot: a visible dot outputs its pixel. -/
def Ppu.pixelStage (p : Ppu) : Ppu :=
  if p.visible && decide (1 ≤ p.dot) && decide (p.dot ≤ 256) then p.outputPixel (p.dot - 1) p.scanline else p

/-! ### Background pipeline -/

/-- `fetch_nt` of R429. -/
def Ppu.fetchNt (read : BitVec 14 → Byte) (p : Ppu) : Ppu :=
  { p with ntLatch := read (0x2000#14 ||| (p.v &&& 0x0FFF#15).setWidth 14) }

/-- The address of the attribute byte of R430. -/
def Ppu.attrAddr (p : Ppu) : BitVec 14 :=
  (0x23C0#15 ||| (p.v &&& 0x0C00#15) ||| ((p.v >>> 4) &&& 0x38#15) ||| ((p.v >>> 2) &&& 0x07#15)).setWidth 14

/-- `fetch_at` of R430. -/
def Ppu.fetchAt (read : BitVec 14 → Byte) (p : Ppu) : Ppu :=
  let sh := (((p.v >>> 4) &&& 4#15) ||| (p.v &&& 2#15)).toNat
  { p with atLatch := (read p.attrAddr >>> sh).setWidth 2 }

/-- The address of the low pattern byte of R431. -/
def Ppu.tileAddr (p : Ppu) : BitVec 14 :=
  (if p.ctrl.getLsbD 4 then 0x1000#14 else 0#14) + 16#14 * p.ntLatch.setWidth 14 + (field p.v 12 3).setWidth 14

/-- `fetch_lo` of R431. -/
def Ppu.fetchLo (read : BitVec 14 → Byte) (p : Ppu) : Ppu := { p with patLo := read p.tileAddr }

/-- `fetch_hi` of R431. -/
def Ppu.fetchHi (read : BitVec 14 → Byte) (p : Ppu) : Ppu := { p with patHi := read (p.tileAddr + 8#14) }

/-- The 4-bit code `palette :: hi :: lo` of bit `b` of a pattern row (R432, R438). -/
def patternCode (palette : BitVec 2) (hiPlane loPlane : Byte) (b : Nat) : BitVec 4 :=
  palette ++ (BitVec.ofBool (hiPlane.getLsbD b) ++ BitVec.ofBool (loPlane.getLsbD b))

/-- Eight codes as 32 bits, the code of bit `at_ 0` in bits 31 to 28 (R432, R438). -/
def patternRow (palette : BitVec 2) (hiPlane loPlane : Byte) (at_ : Nat → Nat) : BitVec 32 :=
  let c := fun j => patternCode palette hiPlane loPlane (at_ j)
  c 0 ++ (c 1 ++ (c 2 ++ (c 3 ++ (c 4 ++ (c 5 ++ (c 6 ++ c 7))))))

/-- `reload_queue` of R432. -/
def Ppu.reloadQueue (p : Ppu) : Ppu :=
  { p with bgQueue := p.bgQueue ||| (patternRow p.atLatch p.patHi p.patLo (fun j => 7 - j)).setWidth 64 }

/-- `increment_x` of R433 on the address in `v`. -/
def incrementX (v : BitVec 15) : BitVec 15 :=
  if v &&& 0x001F#15 = 31#15 then (v &&& 0x7FE0#15) ^^^ 0x0400#15 else v + 1#15

/-- `increment_y` of R434 on the address in `v`. -/
def incrementY (v : BitVec 15) : BitVec 15 :=
  if v &&& 0x7000#15 ≠ 0x7000#15 then v + 0x1000#15
  else
    let top := v &&& 0x0FFF#15
    let cy := field v 5 5
    if cy = 29#5 then (top &&& 0x0C1F#15) ^^^ 0x0800#15
    else if cy = 31#5 then top &&& 0x0C1F#15
    else top + 0x0020#15

/-- `copy_x` of R436. -/
def copyX (v t : BitVec 15) : BitVec 15 := (v &&& 0x7BE0#15) ||| (t &&& 0x041F#15)

/-- `copy_y` of R437. -/
def copyY (v t : BitVec 15) : BitVec 15 := (v &&& 0x041F#15) ||| (t &&& 0x7BE0#15)

/-- The fetch of a dot, by its number modulo 8 (R420, R428). -/
def Ppu.fetch (read : BitVec 14 → Byte) (p : Ppu) : Ppu :=
  match p.dot % 8 with
  | 1 => p.fetchNt read
  | 3 => p.fetchAt read
  | 5 => p.fetchLo read
  | 7 => p.fetchHi read
  | 0 => { p.reloadQueue with v := incrementX p.v }
  | _ => p

/-- R428: the queue shifts by one code, then the dot's fetch runs. -/
def Ppu.shiftAndFetch (read : BitVec 14 → Byte) (p : Ppu) : Ppu := { p with bgQueue := p.bgQueue <<< 4 }.fetch read

/-- The dot is one of those with a fetch (R422). -/
def fetchDot (d : Nat) : Bool := (decide (1 ≤ d) && decide (d ≤ 256)) || (decide (321 ≤ d) && decide (d ≤ 336))

/-- The second stage of a dot: fetches on the dots 1 to 256 and 321 to 336 of a render line (R422). -/
def Ppu.fetchStage (read : BitVec 14 → Byte) (p : Ppu) : Ppu :=
  if p.renderLine && fetchDot p.dot then p.shiftAndFetch read else p

/-- What the third stage makes of `v`: the vertical step and the two reloads (R434, R436, R437). -/
def Ppu.scrolledV (p : Ppu) : BitVec 15 :=
  if p.dot = 256 then incrementY p.v
  else if p.dot = 257 then copyX p.v p.t
  else if p.preRender && decide (280 ≤ p.dot) && decide (p.dot ≤ 304) then copyY p.v p.t
  else p.v

/-- The third stage of a dot: scroll. -/
def Ppu.scrollStage (p : Ppu) : Ppu := if p.renderLine then { p with v := p.scrolledV } else p

/-! ### Sprites -/

/-- The address of the low pattern byte of a sprite's row (R438). -/
def Ppu.spriteAddr (p : Ppu) (tile attr : Byte) (row : Nat) : BitVec 14 :=
  if p.ctrl.getLsbD 5 then
    let row := if attr.getLsbD 7 then 15 - row else row
    let t2 := (tile &&& 0xFE#8).toNat + (if 7 < row then 1 else 0)
    let row := if 7 < row then row - 8 else row
    BitVec.ofNat 14 ((if tile.getLsbD 0 then 0x1000 else 0) + 16 * t2 + row)
  else
    let row := if attr.getLsbD 7 then 7 - row else row
    BitVec.ofNat 14 ((if p.ctrl.getLsbD 3 then 0x1000 else 0) + 16 * tile.toNat + row)

/-- `sprite_row` of R438. -/
def Ppu.spriteRow (read : BitVec 14 → Byte) (p : Ppu) (tile attr : Byte) (row : Nat) : BitVec 32 :=
  let a := p.spriteAddr tile attr row
  patternRow (attr.setWidth 2) (read (a + 8#14)) (read a) (fun j => if attr.getLsbD 6 then j else 7 - j)

/-- The height of a sprite (R435). -/
def Ppu.spriteHeight (p : Ppu) : Nat := if p.ctrl.getLsbD 5 then 16 else 8

/-- The slot that OAM sprite `i` fills when its row `row` is in range (R435). -/
def Ppu.spriteSlot (read : BitVec 14 → Byte) (p : Ppu) (i row : Nat) : SpriteSlot :=
  let attr := p.oam.read (4 * i + 2)
  { pattern := p.spriteRow read (p.oam.read (4 * i + 1)) attr row
    x := p.oam.read (4 * i + 3)
    prio := attr.getLsbD 5
    index := BitVec.ofNat 6 i }

/-- The row of OAM sprite `i` on scanline `s`, where it is in range (R435). -/
def Ppu.spriteRowOn (p : Ppu) (s i : Nat) : Option Nat :=
  let y := (p.oam.read (4 * i)).toNat
  if y ≤ s ∧ s - y < p.spriteHeight then some (s - y) else none

/-- The loop of R435 from OAM sprite `i` on for `k` sprites: the count of sprites in range and the slots. -/
def Ppu.scanOam (read : BitVec 14 → Byte) (p : Ppu) (s : Nat) :
    Nat → Nat → Nat → Vector SpriteSlot 8 → Nat × Vector SpriteSlot 8
  | 0, _, n, slots => (n, slots)
  | k + 1, i, n, slots =>
    match p.spriteRowOn s i with
    | none => p.scanOam read s k (i + 1) n slots
    | some row => p.scanOam read s k (i + 1) (n + 1) (slots.setIfInBounds n (p.spriteSlot read i row))

/-- `evaluate_sprites` of R435. -/
def Ppu.evaluateSprites (read : BitVec 14 → Byte) (s : Nat) (p : Ppu) : Ppu :=
  let r := p.scanOam read s 64 0 0 p.spr
  { p with
    spr := r.2
    sprCount := if 8 < r.1 then 8 else r.1
    spriteOverflow := p.spriteOverflow || decide (8 < r.1) }

/-- The fourth stage of a dot: at dot 257 a visible line evaluates the next line's sprites and the pre-render line
empties the buffer (R435, R421; log 6). -/
def Ppu.spriteStage (read : BitVec 14 → Byte) (p : Ppu) : Ppu :=
  if p.rendering && decide (p.dot = 257) then
    if p.visible then p.evaluateSprites read p.scanline
    else if p.preRender then { p with sprCount := 0 }
    else p
  else p

/-! ### Flags, counters, frame -/

/-- The fifth stage of a dot: vblank set and the pre-render clears (R440, R442). -/
def Ppu.flagStage (p : Ppu) : Ppu :=
  if p.scanline = 241 ∧ p.dot = 1 then { p with vblank := true }
  else if p.scanline = 261 ∧ p.dot = 1 then { p with vblank := false, sprite0Hit := false, spriteOverflow := false }
  else p

/-- The NMI request of the current dot (R441). -/
def Ppu.nmiDot (p : Ppu) : Bool := decide (p.scanline = 241) && decide (p.dot = 1) && p.ctrl.getLsbD 7

/-- R445: the buffers swap and the frame counter advances. -/
def Ppu.completeFrame (p : Ppu) : Ppu := { p with back := p.front, front := p.back, frame := p.frame + 1 }

/-- The last stage of a dot: the counters advance (R443). -/
def Ppu.advance (p : Ppu) : Ppu :=
  if p.dot + 1 = dotsPerLine then
    if p.scanline + 1 = linesPerFrame then { p.completeFrame with dot := 0, scanline := 0 }
    else { p with dot := 0, scanline := p.scanline + 1 }
  else { p with dot := p.dot + 1 }

/-- `PPU.step` of R420: the PPU after one dot, and whether it requested an NMI. The mapper is read only. -/
def ppuStep (unmapped : Byte) (mapper : Option Mapper) (p : Ppu) : Ppu × Bool :=
  let q := p.pixelStage
  let q := q.fetchStage (ppuRead unmapped mapper q)
  let q := q.scrollStage
  let q := q.spriteStage (ppuRead unmapped mapper q)
  (q.flagStage.advance, p.nmiDot)

/-- `n` calls of `PPU.step` in a row, and whether one of them requested an NMI. -/
def ppuRun (unmapped : Byte) (mapper : Option Mapper) : Nat → Ppu → Ppu × Bool
  | 0, p => (p, false)
  | n + 1, p =>
    let r := ppuStep unmapped mapper p
    let rest := ppuRun unmapped mapper n r.1
    (rest.1, r.2 || rest.2)

end Sys2Proof.Machine
end

