-- ==== Sys2Proof/Machine/Console.lean ====
section
/-! DEFINITION. `CPU.step` with its interrupt poll (R703) and `Console.step` (R601): one instruction, one interrupt entry or
one idle step, then three dots of the PPU and one cycle of the APU for each CPU cycle. -/
namespace Sys2Proof.Machine

open Sys2Proof.Config

/-- The entry step of NMI and IRQ (R710): PC as it stands is pushed, with break bit 0, and 7 cycles are returned. -/
def enterInterrupt (vec : Addr) (s : State) : Host.Outcome State Fault Refusal :=
  finish 7 (takeException s.cpu.pc false vec s)

/-- `CPU.step` (R703, R131): jammed, NMI, IRQ, else one instruction. -/
def cpuStep (s : State) : Host.Outcome State Fault Refusal :=
  if s.cpu.jammed then finish 2 s
  else if s.cpu.nmiPending then enterInterrupt nmiVector (s.mapCpu fun c => { c with nmiPending := false })
  else if irqLine s && !s.cpu.i then enterInterrupt irqVector s
  else
    let r := fetchInstr s
    exec r.1 r.2

/-- The state a `CPU.step` starts from: the carried stall is taken and no DMA has run yet (R601, R604). -/
def clearStalls (s : State) : State :=
  { s with console := { s.console with pendingStall := 0, dmaStall := 0 } }

/-- The extra cycles of an OAM DMA in a step that carried in `s0` stall cycles (R621). -/
def dmaCycles (s0 : Nat) (s : State) : Nat :=
  if s.console.dmaStall = 0 then 0 else oamDmaStall + (s.console.cycles + s0 + s.cpuReturn) % 2

/-- The cycles `n` of a step, from the state after its `CPU.step` (R601). -/
def stepCycles (s0 : Nat) (s : State) : Nat := s0 + s.cpuReturn + dmaCycles s0 s

/-- `n` dots of the PPU, with the delivery of its NMI request to the CPU (R602). -/
def ppuAdvance (n : Nat) (s : State) : State :=
  let r := ppuRun s.cfg.unmappedRead s.mapper n s.ppu
  { s with ppu := r.1, cpu := { s.cpu with nmiPending := s.cpu.nmiPending || r.2 } }

/-- The end of a step: the cycles are counted (R601). -/
def countCycles (n : Nat) (s : State) : State :=
  { s with console := { s.console with cycles := s.console.cycles + n, dmaStall := 0 }, consoleReturn := n }

/-- What `Console.step` does after the `CPU.step` (R601). -/
def advanceDevices (s0 : Nat) (s : State) : State :=
  let n := stepCycles s0 s
  countCycles n (apuRun n (ppuAdvance (3 * n) s))

/-- `Console.step` of R601. -/
def consoleStep (s : State) : Host.Outcome State Fault Refusal :=
  match cpuStep (clearStalls s) with
  | .next t => .next (advanceDevices s.console.pendingStall t)
  | .fault f => .fault f
  | .refused r => .refused r

end Sys2Proof.Machine
end

