-- ==== Sys2Proof/Machine/Fetch.lean ====
section
/-! DEFINITION. What `State.withFetchWord` (Machine/Step.lean) needs: a state whose next step fetches an instruction, and
bytes placed where that fetch reads them (log 3). -/
namespace Sys2Proof.Machine

/-- A cartridge with nothing in it: one PRG bank of zeros and CHR RAM. -/
def blankCartridge : Mapper := .fixed { prgBanks := 1, prg := [], chrBanks := 0, chr := [], mirroring := .horizontal }

/-- The address is work RAM or PRG, where a fetch has no side effect and a byte can be placed. -/
def fetchable (a : Addr) : Bool := decide (a.toNat < 0x2000) || decide (0x8000 ≤ a.toNat)

/-- PC as it is where three bytes can be placed there, else 0x0000. -/
def fetchPc (pc : Addr) : Addr :=
  if fetchable pc && fetchable (pc + 1#16) && fetchable (pc + 2#16) then pc else 0x0000#16

/-- A state whose next step fetches: a cartridge is installed, the CPU is not jammed, no interrupt is due. -/
def State.readyToFetch (s : State) : State :=
  let taken := irqLine s && !s.cpu.i
  { s with
    cpu := { s.cpu with pc := fetchPc s.cpu.pc, nmiPending := false, jammed := false }
    mapper := some (s.mapper.getD blankCartridge)
    apu := if taken then { s.apu with frameIrq := false, dmc := { s.apu.dmc with irqFlag := false } } else s.apu
    console := { s.console with loaded := true } }

/-- A byte placed at a CPU address of work RAM or PRG, from outside the machine. -/
def State.placeByte (a : Addr) (v : Byte) (s : State) : State :=
  if a.toNat < 0x2000 then { s with ram := s.ram.write (ramIndex a) v }
  else
    match s.mapper with
    | none => s
    | some (.fixed m) =>
      { s with mapper := some (.fixed { m with prg := m.prg.write ((a.toNat - 0x8000) % m.prgLen) v }) }

/-- Three bytes placed at PC. -/
def State.placeAtPc (b0 b1 b2 : Byte) (s : State) : State :=
  ((s.placeByte s.cpu.pc b0).placeByte (s.cpu.pc + 1#16) b1).placeByte (s.cpu.pc + 2#16) b2

end Sys2Proof.Machine
end

