-- ==== Sys2Proof/Machine/HostOps.lean ====
section
/-! DEFINITION. The Console's other operations, the host contract (R610 to R637, R834): reset, load_rom, run_frame, buttons,
framebuffer, samples, save_state and load_state. Those R600 names with the premise `loaded` (reset, run_frame, save_state,
load_state) are refused without it; the others that take no machine time (buttons, framebuffer, samples) answer in every
state (log 3). -/
namespace Sys2Proof.Machine

open Sys2Proof.Config

/-- The typed errors of R637. I/O errors arise outside CORE only. -/
inductive HostError
  | cartridgeParse | stateVersionMismatch | io
deriving DecidableEq, Repr

/-! ### Reset -/

/-- The PPU after a reset: latches, counters and pipeline at their construction values, memories and framebuffers kept
(R63). -/
def Ppu.reset (p : Ppu) : Ppu :=
  { Ppu.init with vram := p.vram, palette := p.palette, oam := p.oam, back := p.back, front := p.front }

/-- `Console.reset` of R616: CPU through the reset vector, PPU, APU, Console. -/
def consoleReset (s : State) : State :=
  let r := readVector resetVector s
  { r.2 with
    cpu := { Cpu.init with pc := r.1 }
    ppu := r.2.ppu.reset
    apu := Apu.init
    console := { Console.init with loaded := r.2.console.loaded } }

/-- `Console.reset` as the host calls it, with the premise of R600. -/
def hostReset (s : State) : Host.Outcome State Fault Refusal :=
  if s.console.loaded then .next (consoleReset s) else .refused .noCartridge

/-! ### Cartridge image -/

/-- Byte `k` of an image. -/
def imageByte (bytes : List Byte) (k : Nat) : Byte := bytes.getD k 0#8

/-- The bytes between header and PRG data (R95). -/
def imageTrainer (bytes : List Byte) : Nat := if (imageByte bytes 6).getLsbD 2 then trainerBytes else 0

/-- PRG bank count (R95). -/
def imagePrgBanks (bytes : List Byte) : Nat := (imageByte bytes 4).toNat

/-- CHR bank count (R95). -/
def imageChrBanks (bytes : List Byte) : Nat := (imageByte bytes 5).toNat

/-- The mapper id (R95). -/
def imageMapperId (bytes : List Byte) : Nat :=
  ((imageByte bytes 7 &&& 0xF0#8) ||| (imageByte bytes 6 >>> 4)).toNat

/-- The four magic bytes of R95. -/
def imageMagic : List Byte := [0x4E#8, 0x45#8, 0x53#8, 0x1A#8]

/-- The file offset of the PRG data (R95). -/
def imagePrgOffset (bytes : List Byte) : Nat := headerBytes + imageTrainer bytes

/-- The validation of R96. -/
def imageValid (bytes : List Byte) : Bool :=
  decide (headerBytes ≤ bytes.length) && decide (bytes.take 4 = imageMagic)
    && decide (imagePrgOffset bytes + prgBankBytes * imagePrgBanks bytes + chrBankBytes * imageChrBanks bytes
        ≤ bytes.length)
    && decide (imagePrgBanks bytes ≠ 0) && decide (imageMapperId bytes ∈ mapperTable)

/-- The Mapper an accepted image builds (R615): PRG and CHR bytes, or CHR RAM all zero. -/
def imageMapper (bytes : List Byte) : FixedMapper :=
  let body := bytes.drop (imagePrgOffset bytes)
  let prgLen := prgBankBytes * imagePrgBanks bytes
  { prgBanks := imagePrgBanks bytes
    prg := Memory.ofBytes 0 (body.take prgLen)
    chrBanks := imageChrBanks bytes
    chr := Memory.ofBytes 0 ((body.drop prgLen).take (chrBankBytes * imageChrBanks bytes))
    mirroring := if (imageByte bytes 6).getLsbD 0 then .vertical else .horizontal }

/-- `Console.load_rom` of R614 and R615: the error, if any, and the state. -/
def loadRom (bytes : List Byte) (s : State) : Option HostError × State :=
  if imageValid bytes then
    (none, consoleReset { s with
      mapper := some (.fixed (imageMapper bytes))
      console := { s.console with loaded := true } })
  else (some .cartridgeParse, s)

/-! ### Frames, pixels, samples -/

/-- The loop of `run_frame` (R610); `fuel` bounds its steps. -/
def runUntil : Nat → State → Host.Outcome State Fault Refusal
  | 0, s => .next s
  | fuel + 1, s =>
    if 3 * s.console.cycles < s.console.frameTarget3 then
      match consoleStep s with
      | .next t => runUntil fuel t
      | .fault f => .fault f
      | .refused r => .refused r
    else .next s

/-- `set_button_state` of R834: the pad takes the buttons of an input record (R626), in no machine time. The form of the
operation is the model's (log 13). -/
def setButtonState (input : Input) (s : State) : State :=
  { s with console := { s.console with pad := padEncode s.cfg.padMap input } }

/-- The state `run_frame` starts its loop from: the pad is set, the queue is empty, the target has grown (R610). -/
def frameStart (input : Input) (s : State) : State :=
  let s := setButtonState input s
  { s with
    console := { s.console with frameTarget3 := s.console.frameTarget3 + dotsPerFrame }
    apu := { s.apu with queue := [] } }

/-- `Console.run_frame` of R610. The fuel is the distance to the target: every step covers at least six dots (R603), so
it never runs out first. -/
def runFrame (input : Input) (s : State) : Host.Outcome State Fault Refusal :=
  if s.console.loaded then
    let t := frameStart input s
    runUntil (t.console.frameTarget3 - 3 * t.console.cycles) t
  else .refused .noCartridge

/-- The four bytes R, G, B, A of a pixel (R427, R63): alpha is 255 for every colour. -/
def Pixel.rgba : Pixel → List Byte
  | .black => [0#8, 0#8, 0#8, 255#8]
  | .colour c => [(systemPalette c).r, (systemPalette c).g, (systemPalette c).b, 255#8]

/-- `get_framebuffer` of R632: 245760 bytes, row-major. -/
def getFramebuffer (s : State) : List Byte :=
  (List.range (fbWidth * fbHeight)).flatMap fun i => (readPixel s.ppu.front (i % fbWidth) (i / fbWidth)).rgba

/-- `get_audio_samples` of R633. -/
def getAudioSamples (s : State) : List (BitVec 16) := s.apu.queue

/-! ### Save states -/

/-- What a snapshot holds (R635): all state but PRG and CHR ROM. -/
structure Snapshot where
  cpu : Cpu
  ram : Memory
  chrRam : Option Memory
  ppu : Ppu
  apu : Apu
  console : Console
  cpuReturn : Nat
  consoleReturn : Nat
deriving DecidableEq, Repr

/-- A byte sequence as `load_state` sees it: one that does not parse, or a version tag with a snapshot. The byte layout
is open (R635, log 5). -/
inductive Blob
  | malformed
  | snapshot (version : Nat) (body : Snapshot)
deriving DecidableEq, Repr

/-- The CHR RAM of the installed cartridge, if it has one (R93). -/
def chrRamOf : Option Mapper → Option Memory
  | none => none
  | some (.fixed m) => if m.chrBanks = 0 then some m.chr else none

/-- The Mapper with its CHR RAM replaced by a snapshot's. -/
def restoreChrRam (chrRam : Option Memory) : Option Mapper → Option Mapper
  | none => none
  | some (.fixed m) =>
    match chrRam with
    | none => some (.fixed m)
    | some chr => if m.chrBanks = 0 then some (.fixed { m with chr := chr }) else some (.fixed m)

/-- What `save_state` saves of a state (R635). -/
def snapshotOf (s : State) : Snapshot :=
  { cpu := s.cpu, ram := s.ram, chrRam := chrRamOf s.mapper, ppu := s.ppu, apu := s.apu
    console := s.console, cpuReturn := s.cpuReturn, consoleReturn := s.consoleReturn }

/-- The state with everything a snapshot holds replaced by it, as one unit (R636). -/
def restoreSnapshot (body : Snapshot) (s : State) : State :=
  { s with
    cpu := body.cpu, ram := body.ram, mapper := restoreChrRam body.chrRam s.mapper
    ppu := body.ppu, apu := body.apu, console := body.console
    cpuReturn := body.cpuReturn, consoleReturn := body.consoleReturn }

/-- `save_state` of R635, with the premise of R600 (log 3). -/
def saveState (s : State) : Except Refusal Blob :=
  if s.console.loaded then .ok (.snapshot stateVersion (snapshotOf s)) else .error .noCartridge

/-- `load_state` of R636, with the premise of R600 (log 3): the error, if any, and the state; an error leaves the state as
it was. -/
def loadState (b : Blob) (s : State) : Except Refusal (Option HostError × State) :=
  if s.console.loaded then
    match b with
    | .malformed => .ok (some .stateVersionMismatch, s)
    | .snapshot version body =>
      if version = stateVersion then .ok (none, restoreSnapshot body s) else .ok (some .stateVersionMismatch, s)
  else .error .noCartridge

end Sys2Proof.Machine
end

