-- ==== Sys2Proof/Machine/Step.lean ====
section
/-! DEFINITION. The machine's step: `Console.step` (R601), refused while no cartridge is loaded (R600, log 3). -/
namespace Sys2Proof.Machine

/-- One step of the machine. -/
def step (s : State) : Host.Outcome State Fault Refusal :=
  if s.console.loaded then consoleStep s else .refused .noCartridge

/-- The state with the instruction whose bits are `w`, as the opcode table numbers them, placed where the next step
fetches it: a cartridge is installed and no other event is due (log 3). -/
def State.withFetchWord (s : State) (nbits w : Nat) : State :=
  let w := w % 2 ^ nbits
  s.readyToFetch.placeAtPc (tableByte w 0) (tableByte w 1) (tableByte w 2)

end Sys2Proof.Machine
end

