-- ==== Sys2Proof/Safety.lean ====
section
/-! DEFINITION. What a state of this machine between two steps is like, in the terms the claims use: memories in canonical
form, counters in their ranges (10_state.md), device time in step with CPU time (R605). -/
namespace Sys2Proof.Safety

open Sys2Proof.Machine Sys2Proof.Config

/-- The bytes the CHR store of a baseline Mapper has (R33). -/
def chrSize (m : FixedMapper) : Nat := if m.chrBanks = 0 then chrBankBytes else chrBankBytes * m.chrBanks

/-- The Mapper's stores are canonical and it has PRG (R33, R96). -/
def MapperWf : Option Mapper → Prop
  | none => True
  | some (.fixed m) => 0 < m.prgBanks ∧ m.prg.wf m.prgLen = true ∧ m.chr.wf (chrSize m) = true

/-- The PPU's memories are canonical (R35, R40) and its counters are in their ranges (R38, R39). -/
structure PpuWf (p : Ppu) : Prop where
  vram : p.vram.wf 0x800 = true
  palette : Store.wf 0#6 32 p.palette = true
  oam : p.oam.wf 256 = true
  back : Store.wf Pixel.black (fbWidth * fbHeight) p.back = true
  front : Store.wf Pixel.black (fbWidth * fbHeight) p.front = true
  dot : p.dot ≤ 340
  scanline : p.scanline ≤ 261
  sprites : p.sprCount ≤ 8

/-- The DMC's fields are in their ranges: R44 for the bit count, R508 for the sample address and length, R530 for the
address of a running sample. -/
structure DmcWf (d : Dmc) : Prop where
  bits : 1 ≤ d.bitsRemaining ∧ d.bitsRemaining ≤ 8
  sample : 0xC000 ≤ d.sampleAddr.toNat
  length : d.sampleLen ≠ 0#12
  running : d.bytesRemaining ≠ 0#12 → 0x8000 ≤ d.curAddr.toNat

/-- The APU's counters are in their ranges (R45, R531) and the noise register is not stuck at zero (R528). -/
structure ApuWf (u : Apu) : Prop where
  dmc : DmcWf u.dmc
  lfsr : u.noise.lfsr ≠ 0#15
  sequencer : u.seqCycle < (if u.seqMode then 37282 else 29830)

/-- The part of the invariant that every single access to the Bus keeps. -/
structure Wf (s : State) : Prop where
  ram : s.ram.wf 0x800 = true
  mapper : MapperWf s.mapper
  ppu : PpuWf s.ppu
  apu : ApuWf s.apu

/-- The sample clock holds less than one sample period (R45, R533). -/
def SampleClockWf (s : State) : Prop := s.cfg.sampleRate ≤ s.cfg.cpuHz ∧ s.apu.sampleAcc < s.cfg.cpuHz

/-- The position of the PPU in its frame, in dots. -/
def Ppu.position (p : Ppu) : Nat := dotsPerLine * p.scanline + p.dot

/-- R605: the PPU has made exactly three dots for each CPU cycle since the last reset. -/
def InStep (s : State) : Prop :=
  Ppu.position s.ppu = 3 * s.console.cycles % dotsPerFrame ∧ s.ppu.frame = 3 * s.console.cycles / dotsPerFrame

/-- The invariant of the machine between two steps. -/
structure Inv (s : State) : Prop where
  wf : Wf s
  cartridge : s.console.loaded = true → s.mapper ≠ none
  clock : SampleClockWf s
  inStep : InStep s
  noDma : s.console.dmaStall = 0

/-- The addresses of memory: work RAM and everything from 0x4018 on, where no device register lies (R70, R71). -/
def PlainAddr (a : Addr) : Prop := a.toNat < 0x2000 ∨ 0x4018 ≤ a.toNat

/-- The addresses whose read changes no state: all but those R75 lists. -/
def QuietAddr (a : Addr) : Prop :=
  ¬(0x2000 ≤ a.toNat ∧ a.toNat ≤ 0x3FFF ∧ (a.toNat % 8 = 2 ∨ a.toNat % 8 = 7)) ∧ a.toNat ≠ 0x4015 ∧ a.toNat ≠ 0x4016

/-- Two addresses of the same byte of memory: equal, or mirrors of one cell of work RAM (R72). -/
def SameCell (a b : Addr) : Prop :=
  a = b ∨ (a.toNat < 0x2000 ∧ b.toNat < 0x2000 ∧ a.toNat % 0x800 = b.toNat % 0x800)

/-- Every byte of memory, as the CPU reads it, is in `t` what it is in `s`, but for the addresses in `stored`. -/
def MemoryKept (stored : Addr → Prop) (s t : State) : Prop :=
  ∀ a, PlainAddr a → ¬stored a → (memRead a t).1 = (memRead a s).1

/-- Every unit but the CPU is in `t` what it is in `s`, work RAM apart. -/
def DevicesKept (s t : State) : Prop :=
  t.cfg = s.cfg ∧ t.mapper = s.mapper ∧ t.ppu = s.ppu ∧ t.apu = s.apu ∧ t.console = s.console ∧
    t.consoleReturn = s.consoleReturn

/-- What a store to `ea` by an instruction of the given length leaves alone: every register and flag, every unit when no
device register lies at `ea`, and every byte of memory but the one stored to. -/
def StoreFrame (ea : Addr) (length : Nat) (s w : State) : Prop :=
  w.cpu = { s.cpu with pc := s.cpu.pc + BitVec.ofNat 16 length, nmiPending := w.cpu.nmiPending } ∧
    (PlainAddr ea → w.cpu.nmiPending = s.cpu.nmiPending ∧ DevicesKept s w) ∧
    (s.ram.wf 0x800 = true → MemoryKept (SameCell ea) s w)

/-! ### Cycle counts by class and mode, from the table of R831 -/

/-- Class read: `crossed` is p. -/
def readCycles (m : Mode) (crossed : Bool) : Nat :=
  match m with
  | .zp _ => 3
  | .zpx _ | .zpy _ | .abs _ => 4
  | .abx _ | .aby _ => if crossed then 5 else 4
  | .izx _ => 6
  | .izy _ => if crossed then 6 else 5
  | .imp | .acc | .imm _ | .ind _ | .rel _ => 2

/-- Class write. -/
def writeCycles (m : Mode) : Nat :=
  match m with
  | .zp _ => 3
  | .zpx _ | .zpy _ | .abs _ => 4
  | .abx _ | .aby _ => 5
  | .izx _ | .izy _ => 6
  | .imp | .acc | .imm _ | .ind _ | .rel _ => 2

/-- Class read-modify-write. -/
def rmwCycles (m : Mode) : Nat :=
  match m with
  | .zp _ => 5
  | .zpx _ | .zpy _ | .abs _ => 6
  | .abx _ | .aby _ => 7
  | .izx _ | .izy _ => 8
  | .imp | .acc | .imm _ | .ind _ | .rel _ => 2

/-! ### The shift helpers of R250 in plain arithmetic: the result and the carry out -/

/-- One position left. -/
def shiftedLeft (v : Byte) : Byte × Bool := (BitVec.ofNat 8 (2 * v.toNat), decide (128 ≤ v.toNat))

/-- One position right. -/
def shiftedRight (v : Byte) : Byte × Bool := (BitVec.ofNat 8 (v.toNat / 2), decide (v.toNat % 2 = 1))

/-- One position left, the old carry entering bit 0. -/
def rotatedLeft (c : Bool) (v : Byte) : Byte × Bool := (BitVec.ofNat 8 (2 * v.toNat + c.toNat), decide (128 ≤ v.toNat))

/-- One position right, the old carry entering bit 7. -/
def rotatedRight (c : Bool) (v : Byte) : Byte × Bool :=
  (BitVec.ofNat 8 (v.toNat / 2 + 128 * c.toNat), decide (v.toNat % 2 = 1))

/-! ### Addition in plain arithmetic -/

/-- The registers after the addition of `m` and a carry `c` to A: the sum modulo 256, C the carry out of the unsigned sum,
V whether the signed sum leaves -128 to 127 (R230, R231). -/
def added (m : Byte) (c : Bool) (r : Cpu) : Cpu :=
  let sum := r.a.toNat + m.toNat + c.toNat
  let signed := r.a.toInt + m.toInt + c.toNat
  { r with
    a := BitVec.ofNat 8 sum
    c := decide (256 ≤ sum)
    v := decide (signed < -128 ∨ 127 < signed)
    z := decide (sum % 256 = 0)
    n := decide (128 ≤ sum % 256) }

/-- The registers after the subtraction of `m` and of a borrow from A: C is whether no borrow occurred, V whether the
signed difference leaves -128 to 127 (R232). -/
def subtracted (m : Byte) (borrow : Bool) (r : Cpu) : Cpu :=
  let difference := r.a - m - (if borrow then 1#8 else 0#8)
  let signed := r.a.toInt - m.toInt - borrow.toNat
  { r with
    a := difference
    c := decide (m.toNat + borrow.toNat ≤ r.a.toNat)
    v := decide (signed < -128 ∨ 127 < signed)
    z := decide (difference = 0#8)
    n := difference.getLsbD 7 }

/-! ### Exception entry -/

/-- The word at a vector, as the cartridge supplies it (R712). -/
def vectorWord (vec : Addr) (s : State) : Addr :=
  word (mapperCpuRead s.cfg.unmappedRead s.mapper (vec + 1#16)) (mapperCpuRead s.cfg.unmappedRead s.mapper vec)

/-- The state after an exception entry (R710, R711): three bytes below the stack pointer, S, I and PC, nothing else. -/
def entered (ret : Addr) (status : Byte) (vec : Addr) (s : State) : State :=
  let sp := s.cpu.s
  { s with
    ram := ((s.ram.write (0x100 + sp.toNat) (hi ret)).write (0x100 + (sp - 1#8).toNat) (lo ret)).write
      (0x100 + (sp - 2#8).toNat) status
    cpu := { s.cpu with s := sp - 3#8, i := true, pc := vectorWord vec s } }

/-- Two Mappers hold the same cartridge: the same PRG, the same CHR ROM and the same mirroring; CHR RAM may differ (R636). -/
def SameCartridge : Option Mapper → Option Mapper → Prop
  | none, none => True
  | some (.fixed m), some (.fixed m') =>
    m.prgBanks = m'.prgBanks ∧ m.prg = m'.prg ∧ m.chrBanks = m'.chrBanks ∧ m.mirroring = m'.mirroring ∧
      (m.chrBanks ≠ 0 → m.chr = m'.chr)
  | _, _ => False

end Sys2Proof.Safety
end

