-- ==== Sys2Proof/WellFormed.lean ====
section
/-! DEFINITION. Well-formedness. Operands are words of the width the encoding gives them and R148 calls every
value of every operand byte legal, so a term of `Instr` has no check of its own to fail; what can be
ill-formed is a list of bytes offered as one instruction, and that is what is checked (R130): the opcode
byte is there, every operand byte it announces is there, and nothing follows. -/
namespace Sys2Proof

/-- There is an opcode byte. -/
def hasOpcode : List Byte → Bool
  | [] => false
  | _ :: _ => true

/-- Every operand byte the opcode announces is there (R130). -/
def hasOperands : List Byte → Bool
  | [] => false
  | op :: rest => opLength op ≤ rest.length + 1

/-- No byte follows the instruction (R130). -/
def hasNothingMore : List Byte → Bool
  | [] => true
  | op :: rest => rest.length + 1 ≤ opLength op

/-- The list is the bytes of exactly one instruction. -/
def wellFormedBytes (bs : List Byte) : Bool := hasOpcode bs && hasOperands bs && hasNothingMore bs

/-- An instruction is well-formed when the bytes it encodes to are. -/
def Instr.wellFormed (i : Instr) : Bool := wellFormedBytes (encode i)

end Sys2Proof
end

