-- ==== Sys2Proof/Certificates/Slice0/Obligations.lean ====
section
/-! DEFINITION. The statements for the provers. Each docstring names the rules of spec/ a statement formalises and the
constructors of `Instr` it is about. In a statement about an instruction `r` is the resolved operand (`r.1.ea` the effective
address, `r.2` the state after PC has moved), `m` the byte read there and the state after that read. -/

open Sys2Proof Sys2Proof.Machine Sys2Proof.Safety Sys2Proof.Config

/-! ### Encoding -/

/-- R130, R131, R146: every instruction, with every operand its bytes can hold, is read back from its own bytes, and the
bytes after it are left over. -/
def Obligations.DecodeOfEncode : Prop :=
  ∀ (i : Instr) (rest : List Byte), decode (encode i ++ rest) = .ok (i, rest)

/-- R148, R130, R131: no three bytes are refused; the instruction read has the first byte as its opcode, its length is a
function of that byte alone, and it encodes back to the bytes it took. -/
def Obligations.DecoderTakesEveryOpcode : Prop :=
  (∀ (op b1 b2 : Byte) (rest : List Byte), ∃ (i : Instr) (left : List Byte),
    decode (op :: b1 :: b2 :: rest) = .ok (i, left) ∧ i.opcode = op ∧
      (∀ c1 c2 : Byte, (decodeOp op c1 c2).length = i.length) ∧ i.length + left.length = 3 + rest.length) ∧
  (∀ (bytes rest : List Byte) (i : Instr), decode bytes = .ok (i, rest) → encode i ++ rest = bytes)

/-- R146: a few rows of the opcode table, their bytes written out. A sanity statement. -/
def Obligations.DecodedWords : Prop :=
  decode [0xA9#8, 0x42#8] = .ok (.ldaImm 0x42#8, []) ∧
    decode [0x8D#8, 0x00#8, 0x02#8] = .ok (.staAbs 0x0200#16, []) ∧
    decode [0x6C#8, 0xFF#8, 0x02#8] = .ok (.jmpInd 0x02FF#16, []) ∧
    decode [0xD0#8, 0xFD#8] = .ok (.bne 0xFD#8, []) ∧
    decode [0x0A#8] = .ok (.aslAcc, []) ∧
    decode [0xB3#8, 0x10#8] = .ok (.laxIzy 0x10#8, []) ∧
    decode [0x2B#8, 0x7F#8] = .ok (.ancImm .b2B 0x7F#8, []) ∧
    decode [0x1C#8, 0xFF#8, 0x02#8] = .ok (.nopAbx .b1C 0x02FF#16, []) ∧
    decode [0xEA#8] = .ok (.nop, []) ∧ decode [0x02#8] = .ok (.jam .b02, [])

/-! ### The step and the interrupt poll -/

/-- R131, R601: with a cartridge, a CPU that is not jammed and no event due, a step is the meaning of the instruction whose
bytes stand at PC, followed by the devices' advance. The first clause holds whatever the fetch reads; the second is for
bytes in memory, where the fetch has no side effect. -/
def Obligations.StepRunsTheDecodedInstruction : Prop :=
  ∀ s : State, s.console.loaded = true → s.cpu.jammed = false → s.cpu.nmiPending = false →
    (irqLine s && !s.cpu.i) = false →
    (∀ t, exec (fetchInstr (clearStalls s)).1 (fetchInstr (clearStalls s)).2 = .next t →
      step s = .next (advanceDevices s.console.pendingStall t)) ∧
    (PlainAddr s.cpu.pc → PlainAddr (s.cpu.pc + 1#16) → PlainAddr (s.cpu.pc + 2#16) →
      ∀ (i : Instr) (rest : List Byte) (t : State),
        decode [(memRead s.cpu.pc s).1, (memRead (s.cpu.pc + 1#16) s).1, (memRead (s.cpu.pc + 2#16) s).1] =
          .ok (i, rest) →
        exec i (clearStalls s) = .next t → step s = .next (advanceDevices s.console.pendingStall t))

/-- R703, R704, R706, R707, R710: the poll at the start of a CPU step, in its order: jammed, NMI (the latch is cleared),
IRQ when I is clear, else one instruction. -/
def Obligations.InterruptPoll : Prop :=
  ∀ s : State,
    (s.cpu.jammed = true → cpuStep s = .next { s with cpuReturn := 2 }) ∧
    (s.cpu.jammed = false → s.cpu.nmiPending = true →
      cpuStep s = .next { entered s.cpu.pc (s.cpu.packP false) 0xFFFA#16
        { s with cpu := { s.cpu with nmiPending := false } } with cpuReturn := 7 }) ∧
    (s.cpu.jammed = false → s.cpu.nmiPending = false →
      (s.apu.frameIrq || s.apu.dmc.irqFlag || mapperIrq s.mapper) = true → s.cpu.i = false →
      cpuStep s = .next { entered s.cpu.pc (s.cpu.packP false) 0xFFFE#16 s with cpuReturn := 7 }) ∧
    (s.cpu.jammed = false → s.cpu.nmiPending = false →
      (s.cpu.i = true ∨ (s.apu.frameIrq || s.apu.dmc.irqFlag || mapperIrq s.mapper) = false) →
      cpuStep s = exec (fetchInstr s).1 (fetchInstr s).2)

/-- R711: an entry changes three bytes of the stack page, S, I and PC; every other byte of memory reads as before. -/
def Obligations.ExceptionEntryFrame : Prop :=
  ∀ (ret : Addr) (b : Bool) (vec : Addr) (s : State), vec = 0xFFFA#16 ∨ vec = 0xFFFE#16 →
    takeException ret b vec s = entered ret (s.cpu.packP b) vec s ∧
    (s.ram.wf 0x800 = true →
      MemoryKept (fun a => SameCell (stackAddr s.cpu.s) a ∨ SameCell (stackAddr (s.cpu.s - 1#8)) a ∨
        SameCell (stackAddr (s.cpu.s - 2#8)) a) s (takeException ret b vec s) ∧
      (memRead (stackAddr s.cpu.s) (takeException ret b vec s)).1 = hi ret ∧
      (memRead (stackAddr (s.cpu.s - 1#8)) (takeException ret b vec s)).1 = lo ret ∧
      (memRead (stackAddr (s.cpu.s - 2#8)) (takeException ret b vec s)).1 = s.cpu.packP b)

/-! ### The Bus -/

/-- R72: work RAM repeats every 0x800 bytes below 0x2000, a read has no side effect, a write changes one byte of work RAM and
nothing else, and a read gives the last value written to any mirror of the byte, or 0 if none was since construction. -/
def Obligations.WorkRam : Prop :=
  ∀ (a : Addr), a.toNat < 0x2000 →
    (memRead a State.reset).1 = 0#8 ∧
    ∀ (s : State) (v : Byte),
      memRead a s = memRead (a ^^^ 0x0800#16) s ∧ memRead a s = memRead (a ^^^ 0x1000#16) s ∧ (memRead a s).2 = s ∧
      (∃ ram, memWrite a v s = { s with ram := ram }) ∧
      (s.ram.wf 0x800 = true → ∀ b : Addr, b.toNat < 0x2000 →
        (memRead b (memWrite a v s)).1 = if b.toNat % 0x800 = a.toNat % 0x800 then v else (memRead b s).1)

/-- R73: the PPU's registers repeat every 8 bytes from 0x2000 to 0x3FFF, for reads and for writes. -/
def Obligations.PpuRegistersRepeat : Prop :=
  ∀ (a b : Addr) (v : Byte) (s : State), 0x2000 ≤ a.toNat → a.toNat ≤ 0x3FFF →
    b.toNat = a.toNat % 8 + 0x2000 → memRead a s = memRead b s ∧ memWrite a v s = memWrite b v s

/-- R75: the complete list of addresses whose read changes state, and what each changes; every other read changes
nothing. -/
def Obligations.ReadSideEffects : Prop :=
  ∀ (a : Addr) (s : State),
    (QuietAddr a → (memRead a s).2 = s) ∧
    (0x2000 ≤ a.toNat → a.toNat ≤ 0x3FFF → a.toNat % 8 = 2 →
      (memRead a s).2 = { s with ppu := { s.ppu with vblank := false, w := false } }) ∧
    (0x2000 ≤ a.toNat → a.toNat ≤ 0x3FFF → a.toNat % 8 = 7 → ∃ buffer : Byte,
      (memRead a s).2 = { s with
        ppu := { s.ppu with
          readBuffer := buffer
          v := s.ppu.v + (if s.ppu.ctrl.getLsbD 2 then 32#15 else 1#15) } }) ∧
    (a.toNat = 0x4015 → (memRead a s).2 = { s with apu := { s.apu with frameIrq := false } }) ∧
    (a.toNat = 0x4016 → (memRead a s).2 = { s with
        console := { s.console with
          padShift := if s.console.strobe then s.console.padShift else (s.console.padShift >>> 1) ||| 0x80#8 } })

/-- R91, R92, R76: cartridge space with the baseline Mapper: PRG wraps modulo its length from 0x8000 on, a one-bank image
appears twice, nothing answers from 0x4018 to 0x7FFF, a read has no side effect, and a write from 0x4018 on changes
nothing. -/
def Obligations.CartridgeWindow : Prop :=
  ∀ (a : Addr) (v : Byte) (m : FixedMapper) (s : State), s.mapper = some (.fixed m) →
    (0x8000 ≤ a.toNat → memRead a s = (m.prg.read ((a.toNat - 0x8000) % (16384 * m.prgBanks)), s)) ∧
    (0x8000 ≤ a.toNat → m.prgBanks = 1 → memRead a s = memRead (a ^^^ 0x4000#16) s) ∧
    (0x4018 ≤ a.toNat → a.toNat < 0x8000 → memRead a s = (s.cfg.unmappedRead, s)) ∧
    (0x4000 ≤ a.toNat → a.toNat ≤ 0x4014 → memRead a s = (s.cfg.unmappedRead, s)) ∧
    (a.toNat = 0x4017 → memRead a s = (0#8, s)) ∧
    (0x4018 ≤ a.toNat → memWrite a v s = s)

/-! ### Addressing modes -/

/-- R134 to R140: the effective address of the modes without a pointer, in plain arithmetic: zero-page indexing wraps inside
page zero and never crosses; absolute indexing wraps modulo 65536 and crosses when the page differs; none reads. -/
def Obligations.DirectAddresses : Prop :=
  ∀ (s : State) (z : Byte) (a : Addr),
    (resolve (.imm z) s = (Resolved.plain (s.cpu.pc + 1#16), s)) ∧
    (∃ e, resolve (.zp z) s = (Resolved.plain e, s) ∧ e.toNat = z.toNat) ∧
    (∃ e, resolve (.zpx z) s = (Resolved.plain e, s) ∧ e.toNat = (z.toNat + s.cpu.x.toNat) % 256) ∧
    (∃ e, resolve (.zpy z) s = (Resolved.plain e, s) ∧ e.toNat = (z.toNat + s.cpu.y.toNat) % 256) ∧
    (resolve (.abs a) s = (Resolved.plain a, s)) ∧
    (∃ e, resolve (.abx a) s = ({ ea := e, base := a, crossed := decide (e.toNat / 256 ≠ a.toNat / 256) }, s) ∧
      e.toNat = (a.toNat + s.cpu.x.toNat) % 65536) ∧
    (∃ e, resolve (.aby a) s = ({ ea := e, base := a, crossed := decide (e.toNat / 256 ≠ a.toNat / 256) }, s) ∧
      e.toNat = (a.toNat + s.cpu.y.toNat) % 65536)

/-- R141 to R143: the pointers. The second byte of a zero-page pointer is read inside page zero, that of JMP indirect inside
the pointer's own page; the zero-page pointers have no side effect. -/
def Obligations.PointerAddresses : Prop :=
  ∀ (s : State) (z : Byte) (p q z0 z1 : Addr),
    (z0.toNat = (z.toNat + s.cpu.x.toNat) % 256 → z1.toNat = (z.toNat + s.cpu.x.toNat + 1) % 256 →
      resolve (.izx z) s = (Resolved.plain (word (memRead z1 s).1 (memRead z0 s).1), s)) ∧
    (z0.toNat = z.toNat → z1.toNat = (z.toNat + 1) % 256 →
      ∃ e : Addr, e.toNat = ((word (memRead z1 s).1 (memRead z0 s).1).toNat + s.cpu.y.toNat) % 65536 ∧
        resolve (.izy z) s = ({ ea := e
                                base := word (memRead z1 s).1 (memRead z0 s).1
                                crossed :=
                                  decide (e.toNat / 256 ≠ (word (memRead z1 s).1 (memRead z0 s).1).toNat / 256) }, s)) ∧
    (q.toNat = p.toNat / 256 * 256 + (p.toNat + 1) % 256 →
      resolve (.ind p) s = (Resolved.plain (word (memRead q (memRead p s).2).1 (memRead p s).1),
        (memRead q (memRead p s).2).2))

/-- R75, R131: what reading an operand changes, whatever the mode and the address: PC moves past the instruction, only the
fields R75 lists may change besides, every byte of memory reads as before, and nothing else changes when the address is
none of R75's. This is the frame of every instruction that only reads. -/
def Obligations.OperandReadFrame : Prop :=
  ∀ (m : Mode) (s : State),
    let r := operand m s
    let l := loadOperand m r.1.ea r.2
    let c := { s.cpu with pc := s.cpu.pc + BitVec.ofNat 16 m.length }
    (∃ (vblank w : Bool) (buffer : Byte) (v : BitVec 15) (frameIrq : Bool) (shift : Byte),
      l.2 = { s with
        cpu := c
        ppu := { s.ppu with vblank := vblank, w := w, readBuffer := buffer, v := v }
        apu := { s.apu with frameIrq := frameIrq }
        console := { s.console with padShift := shift } }) ∧
    MemoryKept (fun _ => False) s l.2 ∧
    ((∀ p, m ≠ .ind p) → QuietAddr r.1.ea → l.2 = { s with cpu := c })

/-! ### Loads, stores, transfers -/

/-- R201 to R203, R306, R320: every form of LDA, LDX, LDY, LAX and LAS puts the byte read (LAS: the byte ANDed with S) into
its registers, sets Z and N from it, moves PC past the instruction and returns the cycles of its mode. -/
def Obligations.LoadResults : Prop :=
  ∀ (i : Instr) (s : State),
    let r := operand i.mode s
    let m := loadOperand i.mode r.1.ea r.2
    let t := fun (v : Byte) (f : Cpu → Cpu) => ({ m.2 with
      cpu := f { s.cpu with
        pc := s.cpu.pc + BitVec.ofNat 16 i.length, z := decide (v = 0#8), n := v.getLsbD 7 }
      cpuReturn := readCycles i.mode r.1.crossed } : State)
    (i.op = .lda → exec i s = .next (t m.1 fun c => { c with a := m.1 })) ∧
    (i.op = .ldx → exec i s = .next (t m.1 fun c => { c with x := m.1 })) ∧
    (i.op = .ldy → exec i s = .next (t m.1 fun c => { c with y := m.1 })) ∧
    (i.op = .lax → exec i s = .next (t m.1 fun c => { c with a := m.1, x := m.1 })) ∧
    (i.op = .las → exec i s = .next (t (m.1 &&& s.cpu.s) fun c =>
      { c with a := m.1 &&& s.cpu.s, x := m.1 &&& s.cpu.s, s := m.1 &&& s.cpu.s }))

/-- R204 to R206, R305: every form of STA, STX, STY and SAX writes its value once at the effective address and returns the
cycles of its mode; no flag and no register but PC changes, and every byte of memory but the one stored to reads as
before. -/
def Obligations.StoreResults : Prop :=
  ∀ (i : Instr) (s : State),
    let r := operand i.mode s
    let t := fun v : Byte => ({ memWrite r.1.ea v r.2 with cpuReturn := writeCycles i.mode } : State)
    (i.op = .sta → exec i s = .next (t s.cpu.a)) ∧
    (i.op = .stx → exec i s = .next (t s.cpu.x)) ∧
    (i.op = .sty → exec i s = .next (t s.cpu.y)) ∧
    (i.op = .sax → exec i s = .next (t (s.cpu.a &&& s.cpu.x))) ∧
    (i.op ∈ [.sta, .stx, .sty, .sax] → ∀ v : Byte, StoreFrame r.1.ea i.length s (t v) ∧
      (s.ram.wf 0x800 = true → r.1.ea.toNat < 0x2000 → (memRead r.1.ea (t v)).1 = v))

/-- R207 to R212, R257 to R260: TAX, TAY, TXA, TYA, TSX, TXS, INX, INY, DEX and DEY: the destination register, Z and N (TXS:
neither), PC and the two cycles; everything else is unchanged. -/
def Obligations.TransferAndCountResults : Prop :=
  ∀ s : State,
    let t := fun c : Cpu => (.next { s with cpu := { c with pc := s.cpu.pc + 1#16 }, cpuReturn := 2 } :
      Host.Outcome State Fault Refusal)
    let zn := fun (v : Byte) (c : Cpu) => ({ c with z := decide (v.toNat = 0), n := decide (128 ≤ v.toNat) } : Cpu)
    let up := fun v : Byte => BitVec.ofNat 8 (v.toNat + 1)
    let down := fun v : Byte => BitVec.ofNat 8 (v.toNat + 255)
    exec .tax s = t (zn s.cpu.a { s.cpu with x := s.cpu.a }) ∧
    exec .tay s = t (zn s.cpu.a { s.cpu with y := s.cpu.a }) ∧
    exec .txa s = t (zn s.cpu.x { s.cpu with a := s.cpu.x }) ∧
    exec .tya s = t (zn s.cpu.y { s.cpu with a := s.cpu.y }) ∧
    exec .tsx s = t (zn s.cpu.s { s.cpu with x := s.cpu.s }) ∧
    exec .txs s = t { s.cpu with s := s.cpu.x } ∧
    exec .inx s = t (zn (up s.cpu.x) { s.cpu with x := up s.cpu.x }) ∧
    exec .iny s = t (zn (up s.cpu.y) { s.cpu with y := up s.cpu.y }) ∧
    exec .dex s = t (zn (down s.cpu.x) { s.cpu with x := down s.cpu.x }) ∧
    exec .dey s = t (zn (down s.cpu.y) { s.cpu with y := down s.cpu.y })

/-- R290 to R297, R322: CLC, SEC, CLI, SEI, CLD, SED, CLV, the official NOP and the one-byte unofficial NOPs: the one flag
named, PC and the two cycles; everything else is unchanged. An unofficial NOP with an operand reads it once and changes no
register and no flag. -/
def Obligations.FlagAndNopResults : Prop :=
  ∀ s : State,
    let t := fun c : Cpu => (.next { s with cpu := { c with pc := s.cpu.pc + 1#16 }, cpuReturn := 2 } :
      Host.Outcome State Fault Refusal)
    exec .clc s = t { s.cpu with c := false } ∧ exec .sec s = t { s.cpu with c := true } ∧
    exec .cli s = t { s.cpu with i := false } ∧ exec .sei s = t { s.cpu with i := true } ∧
    exec .cld s = t { s.cpu with d := false } ∧ exec .sed s = t { s.cpu with d := true } ∧
    exec .clv s = t { s.cpu with v := false } ∧ exec .nop s = t s.cpu ∧ (∀ k, exec (.nopImp k) s = t s.cpu) ∧
    ∀ i : Instr, i.op = .nop → i.mode ≠ .imp →
      let r := operand i.mode s
      let m := loadOperand i.mode r.1.ea r.2
      exec i s = .next { m.2 with
        cpu := { s.cpu with pc := s.cpu.pc + BitVec.ofNat 16 i.length }, cpuReturn := readCycles i.mode r.1.crossed }

/-! ### The stack -/

/-- R22, R24: a push writes the one byte at `0x0100 | S` and moves S down modulo 256, a pull moves S up and reads there; a pull
after a push gives the byte back and restores S. -/
def Obligations.StackPrimitives : Prop :=
  ∀ (v : Byte) (s : State),
    (stackAddr s.cpu.s).toNat = 0x100 + s.cpu.s.toNat ∧
    (push v s).cpu = { s.cpu with s := BitVec.ofNat 8 (s.cpu.s.toNat + 255) } ∧
    (pull s).2.cpu = { s.cpu with s := BitVec.ofNat 8 (s.cpu.s.toNat + 1) } ∧
    (pull s).1 = (memRead (stackAddr (s.cpu.s + 1#8)) s).1 ∧
    (s.cpu.s = 0#8 → stackAddr s.cpu.s = 0x0100#16 ∧ (push v s).cpu.s = 0xFF#8) ∧
    (s.cpu.s = 0xFF#8 → stackAddr (s.cpu.s + 1#8) = 0x0100#16 ∧ (pull s).2.cpu.s = 0x00#8) ∧
    DevicesKept s (push v s) ∧ DevicesKept s (pull s).2 ∧ (pull s).2.ram = s.ram ∧
    (s.ram.wf 0x800 = true →
      (memRead (stackAddr s.cpu.s) (push v s)).1 = v ∧ MemoryKept (SameCell (stackAddr s.cpu.s)) s (push v s) ∧
        (pull (push v s)).1 = v ∧ (pull (push v s)).2.cpu = s.cpu)

/-- R221 to R224: PHA and PHP push A and the status byte with bit 4 set, PLA and PLP pull A (with Z and N) and the six
flags; the stack pointer, PC and the cycles, and nothing else. -/
def Obligations.StackInstructionResults : Prop :=
  ∀ s : State,
    let sp := s.cpu.s
    let pulled := s.ram.read (0x100 + (sp + 1#8).toNat)
    let c := { s.cpu with pc := s.cpu.pc + 1#16 }
    let pushed := fun v : Byte => (.next { s with
      ram := s.ram.write (0x100 + sp.toNat) v, cpu := { c with s := sp - 1#8 }, cpuReturn := 3 } :
        Host.Outcome State Fault Refusal)
    exec .pha s = pushed s.cpu.a ∧
    exec .php s = pushed (s.cpu.packP true) ∧
    exec .pla s = .next { s with
      cpu := { c with s := sp + 1#8, a := pulled, z := decide (pulled = 0#8), n := pulled.getLsbD 7 }, cpuReturn := 4 } ∧
    exec .plp s = .next { s with
      cpu := { c with
        s := sp + 1#8, n := pulled.getLsbD 7, v := pulled.getLsbD 6, d := pulled.getLsbD 3
        i := pulled.getLsbD 2, z := pulled.getLsbD 1, c := pulled.getLsbD 0 }
      cpuReturn := 4 }

/-- R27: the layout of the status byte, bit by bit, and what is read back from it: the six flags, whatever bits 5 and 4. -/
def Obligations.StatusByteLayout : Prop :=
  ∀ (b : Bool) (p : Byte) (c : Cpu),
    (c.packP b).getLsbD 7 = c.n ∧ (c.packP b).getLsbD 6 = c.v ∧ (c.packP b).getLsbD 5 = true ∧
    (c.packP b).getLsbD 4 = b ∧ (c.packP b).getLsbD 3 = c.d ∧ (c.packP b).getLsbD 2 = c.i ∧
    (c.packP b).getLsbD 1 = c.z ∧ (c.packP b).getLsbD 0 = c.c ∧
    c.unpackP (c.packP b) = c ∧ c.unpackP p = c.unpackP (p ^^^ 0x30#8) ∧
    (c.unpackP p).packP b = (p &&& 0xCF#8) ||| 0x20#8 ||| (if b then 0x10#8 else 0#8)

/-! ### Arithmetic, logic, compare -/

/-- R230 to R232, R315: every form of ADC, SBC and USBC, in plain arithmetic: binary whatever D is, C the unsigned carry (not
borrow), V the signed overflow. -/
def Obligations.AddSubtractResults : Prop :=
  ∀ (i : Instr) (s : State),
    let r := operand i.mode s
    let m := loadOperand i.mode r.1.ea r.2
    let t := fun c : Cpu => (.next { m.2 with
      cpu := { c with pc := s.cpu.pc + BitVec.ofNat 16 i.length }, cpuReturn := readCycles i.mode r.1.crossed } :
        Host.Outcome State Fault Refusal)
    (i.op = .adc → exec i s = t (added m.1 s.cpu.c s.cpu)) ∧
    (i.op = .sbc ∨ i.op = .usbc → exec i s = t (subtracted m.1 (!s.cpu.c) s.cpu))

/-- R233 to R239: every form of AND, ORA and EOR puts its result into A and sets Z and N; every form of CMP, CPX, CPY and
BIT writes its flags and no register. -/
def Obligations.LogicAndCompareResults : Prop :=
  ∀ (i : Instr) (s : State),
    let r := operand i.mode s
    let m := loadOperand i.mode r.1.ea r.2
    let t := fun c : Cpu => (.next { m.2 with
      cpu := { c with pc := s.cpu.pc + BitVec.ofNat 16 i.length }, cpuReturn := readCycles i.mode r.1.crossed } :
        Host.Outcome State Fault Refusal)
    let logic := fun v : Byte => ({ s.cpu with a := v, z := decide (v = 0#8), n := v.getLsbD 7 } : Cpu)
    let compared := fun v : Byte => ({ s.cpu with
      c := decide (m.1.toNat ≤ v.toNat), z := decide (v = m.1), n := (v - m.1).getLsbD 7 } : Cpu)
    (i.op = .and → exec i s = t (logic (s.cpu.a &&& m.1))) ∧
    (i.op = .ora → exec i s = t (logic (s.cpu.a ||| m.1))) ∧
    (i.op = .eor → exec i s = t (logic (s.cpu.a ^^^ m.1))) ∧
    (i.op = .cmp → exec i s = t (compared s.cpu.a)) ∧
    (i.op = .cpx → exec i s = t (compared s.cpu.x)) ∧
    (i.op = .cpy → exec i s = t (compared s.cpu.y)) ∧
    (i.op = .bit → exec i s = t { s.cpu with
      z := decide (s.cpu.a &&& m.1 = 0#8), n := m.1.getLsbD 7, v := m.1.getLsbD 6 })

/-! ### Shifts, increments, decrements -/

/-- R250 to R254: ASL, LSR, ROL and ROR of the accumulator, in plain arithmetic. -/
def Obligations.AccumulatorShiftResults : Prop :=
  ∀ s : State,
    let t := fun r : Byte × Bool => (.next { s with
      cpu := { s.cpu with
        pc := s.cpu.pc + 1#16, a := r.1, c := r.2, z := decide (r.1 = 0#8), n := r.1.getLsbD 7 }
      cpuReturn := 2 } : Host.Outcome State Fault Refusal)
    exec .aslAcc s = t (shiftedLeft s.cpu.a) ∧ exec .lsrAcc s = t (shiftedRight s.cpu.a) ∧
    exec .rolAcc s = t (rotatedLeft s.cpu.c s.cpu.a) ∧ exec .rorAcc s = t (rotatedRight s.cpu.c s.cpu.a)

/-- R250 to R256: every memory form of ASL, LSR, ROL, ROR, INC and DEC reads once, writes the new byte once to the same
address, sets its flags and returns the cycles of its mode; A does not change, and every other byte of memory reads as
before. -/
def Obligations.MemoryShiftAndCountResults : Prop :=
  ∀ (i : Instr) (s : State),
    let r := operand i.mode s
    let m := memRead r.1.ea r.2
    let w := fun b : Byte => memWrite r.1.ea b m.2
    let t := fun (b : Byte) (f : Cpu → Cpu) => (.next { w b with
      cpu := f { (w b).cpu with z := decide (b = 0#8), n := b.getLsbD 7 }, cpuReturn := rmwCycles i.mode } :
        Host.Outcome State Fault Refusal)
    let shift := fun p : Byte × Bool => t p.1 fun c => { c with c := p.2 }
    (i.op = .asl → i.mode ≠ .acc → exec i s = shift (shiftedLeft m.1)) ∧
    (i.op = .lsr → i.mode ≠ .acc → exec i s = shift (shiftedRight m.1)) ∧
    (i.op = .rol → i.mode ≠ .acc → exec i s = shift (rotatedLeft s.cpu.c m.1)) ∧
    (i.op = .ror → i.mode ≠ .acc → exec i s = shift (rotatedRight s.cpu.c m.1)) ∧
    (i.op = .inc → exec i s = t (BitVec.ofNat 8 (m.1.toNat + 1)) id) ∧
    (i.op = .dec → exec i s = t (BitVec.ofNat 8 (m.1.toNat + 255)) id) ∧
    (i.op ∈ [.asl, .lsr, .rol, .ror, .inc, .dec] → i.mode ≠ .acc → ∀ b, StoreFrame r.1.ea i.length s (w b))

/-! ### Control flow -/

/-- R271 to R274: JMP absolute and indirect; JSR, which pushes the address of its own last byte, high byte first, and writes
no other byte of memory; RTS, which adds one to the address it pulls; RTI, which does not, and pulls the flags first. -/
def Obligations.JumpAndReturnResults : Prop :=
  ∀ (a : Addr) (s : State),
    let sp := s.cpu.s
    let r := resolve (.ind a) s
    let b := fun k : Byte => s.ram.read (0x100 + (sp + k).toNat)
    exec (.jmpAbs a) s = .next { s with cpu := { s.cpu with pc := a }, cpuReturn := 3 } ∧
    exec (.jmpInd a) s = .next { r.2 with cpu := { s.cpu with pc := r.1.ea }, cpuReturn := 5 } ∧
    exec (.jsrAbs a) s = .next { s with
      ram := (s.ram.write (0x100 + sp.toNat) (hi (s.cpu.pc + 2#16))).write (0x100 + (sp - 1#8).toNat)
        (lo (s.cpu.pc + 2#16))
      cpu := { s.cpu with pc := a, s := sp - 2#8 }
      cpuReturn := 6 } ∧
    (s.ram.wf 0x800 = true → ∀ t, exec (.jsrAbs a) s = .next t →
      MemoryKept (fun b => SameCell (stackAddr sp) b ∨ SameCell (stackAddr (sp - 1#8)) b) s t) ∧
    exec .rts s = .next { s with
      cpu := { s.cpu with s := sp + 2#8, pc := word (b 2#8) (b 1#8) + 1#16 }, cpuReturn := 6 } ∧
    exec .rti s = .next { s with
      cpu := { s.cpu.unpackP (b 1#8) with s := sp + 3#8, pc := word (b 3#8) (b 2#8) }, cpuReturn := 6 }

/-- R275, R701: BRK pushes the address two bytes on and the status byte with bit 4 set, sets I and goes through the vector it
shares with IRQ, whatever the flags. -/
def Obligations.BrkResult : Prop :=
  ∀ s : State,
    exec .brk s = .next { entered (s.cpu.pc + 2#16) (s.cpu.packP true) 0xFFFE#16 s with cpuReturn := 7 } ∧
    (s.ram.wf 0x800 = true → ∀ t, exec .brk s = .next t →
      MemoryKept (fun a => SameCell (stackAddr s.cpu.s) a ∨ SameCell (stackAddr (s.cpu.s - 1#8)) a ∨
        SameCell (stackAddr (s.cpu.s - 2#8)) a) s t)

/-- R144, R276 to R284: the eight branches: the target is the address of the next instruction plus the signed offset, modulo
65536; two cycles, three when taken, four when the target lies in another page than the next instruction; nothing but PC
changes. -/
def Obligations.BranchResults : Prop :=
  ∀ (off : Byte) (s : State),
    let target := (s.cpu.pc.toNat + 2 + off.toInt) % 65536
    let t := fun taken : Bool => (.next { s with
      cpu := { s.cpu with pc := if taken then BitVec.ofInt 16 target else s.cpu.pc + 2#16 }
      cpuReturn := if taken then (if target / 256 = (s.cpu.pc + 2#16).toNat / 256 then 3 else 4) else 2 } :
        Host.Outcome State Fault Refusal)
    exec (.bpl off) s = t (!s.cpu.n) ∧ exec (.bmi off) s = t s.cpu.n ∧
    exec (.bvc off) s = t (!s.cpu.v) ∧ exec (.bvs off) s = t s.cpu.v ∧
    exec (.bcc off) s = t (!s.cpu.c) ∧ exec (.bcs off) s = t s.cpu.c ∧
    exec (.bne off) s = t (!s.cpu.z) ∧ exec (.beq off) s = t s.cpu.z

/-- R285, R713: RTS after JSR resumes after the JSR, RTI after BRK resumes two bytes after the BRK's opcode, and both leave
every register and flag as it was, wherever the stack pointer stands. -/
def Obligations.CallsReturn : Prop :=
  ∀ (a : Addr) (s : State), s.ram.wf 0x800 = true →
    (∃ t u, exec (.jsrAbs a) s = .next t ∧ exec .rts t = .next u ∧
      u.cpu = { s.cpu with pc := s.cpu.pc + 3#16 } ∧ DevicesKept s u) ∧
    (∃ t u, exec .brk s = .next t ∧ exec .rti t = .next u ∧
      u.cpu = { s.cpu with pc := s.cpu.pc + 2#16 } ∧ DevicesKept s u)

/-! ### The unofficial opcodes -/

/-- R301 to R304, R307, R308: every form of SLO, RLA, SRE, RRA, DCP and ISC: one read, one write of the shifted or counted
byte to the same address, then the second operation on A with that byte. -/
def Obligations.CombinedResults : Prop :=
  ∀ (i : Instr) (s : State),
    let r := operand i.mode s
    let m := memRead r.1.ea r.2
    let w := fun b : Byte => memWrite r.1.ea b m.2
    let t := fun (b : Byte) (f : Cpu → Cpu) => (.next { w b with
      cpu := f (w b).cpu, cpuReturn := rmwCycles i.mode } : Host.Outcome State Fault Refusal)
    let logic := fun (p : Byte × Bool) (v : Byte) => t p.1 fun c =>
      { c with a := v, c := p.2, z := decide (v = 0#8), n := v.getLsbD 7 }
    let up := BitVec.ofNat 8 (m.1.toNat + 1)
    let down := BitVec.ofNat 8 (m.1.toNat + 255)
    (i.op = .slo → exec i s = logic (shiftedLeft m.1) (s.cpu.a ||| (shiftedLeft m.1).1)) ∧
    (i.op = .rla → exec i s = logic (rotatedLeft s.cpu.c m.1) (s.cpu.a &&& (rotatedLeft s.cpu.c m.1).1)) ∧
    (i.op = .sre → exec i s = logic (shiftedRight m.1) (s.cpu.a ^^^ (shiftedRight m.1).1)) ∧
    (i.op = .rra → exec i s = t (rotatedRight s.cpu.c m.1).1
      (added (rotatedRight s.cpu.c m.1).1 (rotatedRight s.cpu.c m.1).2)) ∧
    (i.op = .dcp → exec i s = t down fun c => { c with
      c := decide (down.toNat ≤ s.cpu.a.toNat), z := decide (s.cpu.a = down), n := (s.cpu.a - down).getLsbD 7 }) ∧
    (i.op = .isc → exec i s = t up (subtracted up (!s.cpu.c))) ∧
    (i.op ∈ [.slo, .rla, .sre, .rra, .dcp, .isc] → ∀ b, StoreFrame r.1.ea i.length s (w b))

/-- R309 to R314: ANC (both bytes), ALR, ARR, XAA, LXA and AXS, for every value of the two magic parameters. -/
def Obligations.ImmediateCombinationResults : Prop :=
  ∀ (v : Byte) (s : State),
    let t := fun c : Cpu => (.next { s with cpu := { c with pc := s.cpu.pc + 2#16 }, cpuReturn := 2 } :
      Host.Outcome State Fault Refusal)
    let zn := fun (b : Byte) (c : Cpu) => ({ c with z := decide (b = 0#8), n := b.getLsbD 7 } : Cpu)
    let masked := s.cpu.a &&& v
    let right := shiftedRight masked
    let rotated := (rotatedRight s.cpu.c masked).1
    let xaa := (s.cpu.a ||| s.cfg.xaaMagic) &&& s.cpu.x &&& v
    let lxa := (s.cpu.a ||| s.cfg.lxaMagic) &&& v
    let both := s.cpu.a &&& s.cpu.x
    (∀ k, exec (.ancImm k v) s = t (zn masked { s.cpu with a := masked, c := masked.getLsbD 7 })) ∧
    exec (.alrImm v) s = t { s.cpu with a := right.1, c := right.2, z := decide (right.1 = 0#8), n := false } ∧
    exec (.arrImm v) s = t (zn rotated { s.cpu with
      a := rotated, c := rotated.getLsbD 6, v := rotated.getLsbD 6 ^^ rotated.getLsbD 5 }) ∧
    exec (.xaaImm v) s = t (zn xaa { s.cpu with a := xaa }) ∧
    exec (.lxaImm v) s = t (zn lxa { s.cpu with a := lxa, x := lxa }) ∧
    exec (.axsImm v) s = t (zn (both - v) { s.cpu with x := both - v, c := decide (v.toNat ≤ both.toNat) })

/-- R316 to R319: every form of SHA, SHX, SHY and TAS: the value ANDed with the high byte of the base plus one is written once,
and replaces the high byte of the address when the index crossed a page; TAS sets S first. -/
def Obligations.UnstableStoreResults : Prop :=
  ∀ (i : Instr) (s : State),
    let r := operand i.mode s
    let v := fun b : Byte => b &&& (hi r.1.base + 1#8)
    let ea := fun b : Byte => if r.1.crossed then word (v b) (lo r.1.ea) else r.1.ea
    let w := fun b : Byte => memWrite (ea b) (v b) r.2
    let t := fun (b : Byte) (f : Cpu → Cpu) => (.next { w b with
      cpu := f (w b).cpu, cpuReturn := writeCycles i.mode } : Host.Outcome State Fault Refusal)
    (i.op = .sha → exec i s = t (s.cpu.a &&& s.cpu.x) id) ∧
    (i.op = .shx → exec i s = t s.cpu.x id) ∧
    (i.op = .shy → exec i s = t s.cpu.y id) ∧
    (i.op = .tas → exec i s = t (s.cpu.a &&& s.cpu.x) fun c => { c with s := s.cpu.a &&& s.cpu.x }) ∧
    (i.op ∈ [.sha, .shx, .shy, .tas] → ∀ b, StoreFrame (ea b) i.length s (w b))

/-- R321: the twelve JAM opcodes under both policies, and the step of a jammed CPU. -/
def Obligations.JamResults : Prop :=
  ∀ (k : JamByte) (s : State),
    (s.cfg.jamPolicy = .halt → exec (.jam k) s = .next { s with
      cpu := { s.cpu with pc := s.cpu.pc + 1#16, jammed := true }, cpuReturn := 2 }) ∧
    (s.cfg.jamPolicy = .nop → exec (.jam k) s = .next { s with
      cpu := { s.cpu with pc := s.cpu.pc + 1#16 }, cpuReturn := 2 }) ∧
    (s.cpu.jammed = true → cpuStep s = .next { s with cpuReturn := 2 })

/-! ### Rules about all instructions -/

/-- R700, R79, R830: every instruction completes from every state, returns two to eight cycles, and leaves alone the
parameters, the Mapper (a cartridge with CHR RAM apart, whose CHR RAM it may write), the counters and both framebuffers of the
PPU, and of the Console the cycle counts, the carried stall, the loaded flag and the pad. -/
def Obligations.EveryInstructionCompletes : Prop :=
  ∀ (i : Instr) (s : State), ∃ t, exec i s = .next t ∧ 2 ≤ t.cpuReturn ∧ t.cpuReturn ≤ 8 ∧ t.cfg = s.cfg ∧
    (s.mapper = none → t.mapper = none) ∧
    (∀ m, s.mapper = some (.fixed m) →
      ∃ chr, t.mapper = some (.fixed { m with chr := chr }) ∧ (m.chrBanks ≠ 0 → chr = m.chr)) ∧
    t.ppu.dot = s.ppu.dot ∧ t.ppu.scanline = s.ppu.scanline ∧ t.ppu.frame = s.ppu.frame ∧
    t.ppu.back = s.ppu.back ∧ t.ppu.front = s.ppu.front ∧
    t.console.cycles = s.console.cycles ∧ t.console.frameTarget3 = s.console.frameTarget3 ∧
    t.console.pendingStall = s.console.pendingStall ∧
    t.console.loaded = s.console.loaded ∧ t.console.pad = s.console.pad

/-- R28: the instructions that write each flag are those listed; every other instruction leaves the flag as it was. -/
def Obligations.FlagWriters : Prop :=
  ∀ (i : Instr) (s t : State), exec i s = .next t →
    (i.op ∉ [.adc, .sbc, .cmp, .cpx, .cpy, .asl, .lsr, .rol, .ror, .clc, .sec, .plp, .rti, .slo, .rla, .sre, .rra, .dcp,
      .isc, .anc, .alr, .arr, .axs, .usbc] → t.cpu.c = s.cpu.c) ∧
    (i.op ∈ [.sta, .stx, .sty, .sax, .sha, .shx, .shy, .tas, .txs, .pha, .php, .jmp, .jsr, .rts, .brk, .bpl, .bmi, .bvc,
      .bvs, .bcc, .bcs, .bne, .beq, .clc, .sec, .cli, .sei, .cld, .sed, .clv, .nop, .jam] →
      t.cpu.z = s.cpu.z ∧ t.cpu.n = s.cpu.n) ∧
    (i.op ∉ [.adc, .sbc, .bit, .clv, .plp, .rti, .rra, .isc, .arr, .usbc] → t.cpu.v = s.cpu.v) ∧
    (i.op ∉ [.sei, .cli, .plp, .rti, .brk] → t.cpu.i = s.cpu.i) ∧
    (i.op ∉ [.sed, .cld, .plp, .rti] → t.cpu.d = s.cpu.d)

/-- R21: the instructions that write A, X, Y and S are those listed; every other instruction leaves the register as it
was. -/
def Obligations.RegisterWriters : Prop :=
  ∀ (i : Instr) (s t : State), exec i s = .next t →
    (i.op ∉ [.lda, .pla, .txa, .tya, .adc, .sbc, .and, .ora, .eor, .asl, .lsr, .rol, .ror, .slo, .rla, .sre, .rra, .lax,
      .isc, .anc, .alr, .arr, .xaa, .lxa, .las, .usbc] → t.cpu.a = s.cpu.a) ∧
    (i.op ∈ [.asl, .lsr, .rol, .ror] → i.mode ≠ .acc → t.cpu.a = s.cpu.a) ∧
    (i.op ∉ [.ldx, .tax, .tsx, .inx, .dex, .lax, .lxa, .axs, .las] → t.cpu.x = s.cpu.x) ∧
    (i.op ∉ [.ldy, .tay, .iny, .dey] → t.cpu.y = s.cpu.y) ∧
    (i.op ∉ [.txs, .pha, .php, .pla, .plp, .jsr, .rts, .rti, .brk, .tas, .las] → t.cpu.s = s.cpu.s)

/-! ### The PPU -/

/-- R402, R407, R408, R436, R437: what writes of PPUCTRL, PPUSCROLL and PPUADDR do to the scroll and address latches, in plain
arithmetic, `w` telling the first write of a pair from the second; and how a new scroll reaches `v`: bits 10 and 4 to 0 from
`t` at dot 257 of a render line, the other bits at each of the dots 280 to 304 of the pre-render line, both with rendering
enabled only. No dot changes `t`. -/
def Obligations.ScrollAndAddressWrites : Prop :=
  (∀ (v : Byte) (s : State),
    let p := s.ppu
    let c := (memWrite 0x2000#16 v s).ppu
    let q := (memWrite 0x2005#16 v s).ppu
    let a := (memWrite 0x2006#16 v s).ppu
    (c.ctrl = v ∧ c.t.toNat = p.t.toNat / 4096 * 4096 + v.toNat % 4 * 1024 + p.t.toNat % 1024 ∧ c.v = p.v) ∧
    (p.w = false → q.t.toNat = p.t.toNat / 32 * 32 + v.toNat / 8 ∧ q.x.toNat = v.toNat % 8 ∧ q.w = true ∧ q.v = p.v) ∧
    (p.w = true → q.t.toNat = v.toNat % 8 * 4096 + p.t.toNat / 1024 % 4 * 1024 + v.toNat / 8 * 32 + p.t.toNat % 32 ∧
      q.x = p.x ∧ q.w = false ∧ q.v = p.v) ∧
    (p.w = false → a.t.toNat = v.toNat % 64 * 256 + p.t.toNat % 256 ∧ a.w = true ∧ a.v = p.v) ∧
    (p.w = true → a.t.toNat = p.t.toNat / 256 * 256 + v.toNat ∧ a.w = false ∧ a.v = a.t)) ∧
  ∀ (unmapped : Byte) (mapper : Option Mapper) (p : Ppu),
    let q := (ppuStep unmapped mapper p).1
    let horizontal := fun k : Nat => decide (k ≤ 4 ∨ k = 10)
    q.t = p.t ∧
    (p.renderLine = true → p.dot = 257 →
      ∀ k, q.v.getLsbD k = if horizontal k then p.t.getLsbD k else p.v.getLsbD k) ∧
    (p.rendering = true → p.scanline = 261 → 280 ≤ p.dot → p.dot ≤ 304 →
      ∀ k, q.v.getLsbD k = if horizontal k then p.v.getLsbD k else p.t.getLsbD k) ∧
    (p.rendering = false → q.v = p.v)

/-- R404, R410, R411: what reads of PPUSTATUS and PPUDATA return: the three flags above five zero bits (the
read clears vblank and the write toggle alone); the delayed byte below the palette, the palette entry at once in it, with
the buffer reloaded, and `v` advanced modulo 0x8000. -/
def Obligations.StatusAndDataReads : Prop :=
  ∀ s : State,
    let st := memRead 0x2002#16 s
    let d := memRead 0x2007#16 s
    let a := s.ppu.v.toNat % 0x4000
    let rd := fun n : Nat => ppuRead s.cfg.unmappedRead s.mapper s.ppu (BitVec.ofNat 14 n)
    (st.1.getLsbD 7 = s.ppu.vblank ∧ st.1.getLsbD 6 = s.ppu.sprite0Hit ∧ st.1.getLsbD 5 = s.ppu.spriteOverflow ∧
      st.1.toNat % 32 = 0) ∧
    ((memRead 0x2002#16 st.2).1.getLsbD 7 = false ∧ st.2.ppu.vblank = false ∧ st.2.ppu.w = false ∧
      st.2.ppu.sprite0Hit = s.ppu.sprite0Hit ∧ st.2.ppu.spriteOverflow = s.ppu.spriteOverflow ∧ st.2.cpu.nmiPending = s.cpu.nmiPending) ∧
    (a < 0x3F00 → d.1 = s.ppu.readBuffer ∧ d.2.ppu.readBuffer = rd a) ∧
    (0x3F00 ≤ a → d.1 = rd a ∧ d.2.ppu.readBuffer = rd (a - 0x1000)) ∧
    d.2.ppu.v.toNat = (s.ppu.v.toNat + if s.ppu.ctrl.getLsbD 2 then 32 else 1) % 0x8000

/-- R100 to R103, R412: a PPUDATA write is read back at its own address and at every mirror of it: CHR RAM, the nametables
under the cartridge's mirroring, the palette with its 6-bit entries; CHR ROM ignores it; the address advances. -/
def Obligations.PpuMemoryHoldsWrites : Prop :=
  ∀ (v : Byte) (s : State) (m : FixedMapper), Wf s → s.mapper = some (.fixed m) →
    let a := BitVec.ofNat 14 s.ppu.v.toNat
    let t := memWrite 0x2007#16 v s
    let rd := fun (u : State) (b : BitVec 14) => ppuRead u.cfg.unmappedRead u.mapper u.ppu b
    let table := fun b : BitVec 14 => if m.mirroring = .horizontal then b.toNat / 0x800 % 2 else b.toNat / 0x400 % 2
    t.ppu.v.toNat = (s.ppu.v.toNat + if s.ppu.ctrl.getLsbD 2 then 32 else 1) % 0x8000 ∧
    (a.toNat < 0x2000 → rd t a = (if m.chrBanks = 0 then v else rd s a) ∧ ∀ b, b ≠ a → rd t b = rd s b) ∧
    (0x2000 ≤ a.toNat → a.toNat < 0x3F00 →
      rd t a = v ∧
      (∀ b : BitVec 14, b.toNat < 0x2000 ∨ 0x3F00 ≤ b.toNat → rd t b = rd s b) ∧
      (∀ b : BitVec 14, 0x2000 ≤ b.toNat → b.toNat < 0x3F00 →
        rd t b = if b.toNat % 0x400 = a.toNat % 0x400 ∧ table b = table a then v else rd s b)) ∧
    (0x3F00 ≤ a.toNat →
      (rd t a).toNat = v.toNat % 64 ∧
      (∀ b : BitVec 14, b.toNat < 0x3F00 → rd t b = rd s b) ∧
      (∀ b : BitVec 14, 0x3F00 ≤ b.toNat → palIndex b = palIndex a → rd t b = rd t a) ∧
      (∀ b : BitVec 14, 0x3F00 ≤ b.toNat → palIndex b ≠ palIndex a → rd t b = rd s b))

/-- R443 to R446: the dot and scanline counters, with no dot ever skipped: 341 dots a line, 262 lines a frame; the frame
counter advances and the buffers swap at the wrap; 89342 dots from anywhere give exactly one frame more and the same
position. -/
def Obligations.PpuCounters : Prop :=
  ∀ (unmapped : Byte) (mapper : Option Mapper) (p : Ppu), p.dot ≤ 340 → p.scanline ≤ 261 →
    let q := (ppuStep unmapped mapper p).1
    let f := (ppuRun unmapped mapper 89342 p).1
    (p.dot < 340 → q.dot = p.dot + 1 ∧ q.scanline = p.scanline ∧ q.frame = p.frame ∧ q.front = p.front) ∧
    (p.dot = 340 → p.scanline < 261 →
      q.dot = 0 ∧ q.scanline = p.scanline + 1 ∧ q.frame = p.frame ∧ q.front = p.front) ∧
    (p.dot = 340 → p.scanline = 261 →
      q.dot = 0 ∧ q.scanline = 0 ∧ q.frame = p.frame + 1 ∧ q.front = p.back ∧ q.back = p.front) ∧
    (f.dot = p.dot ∧ f.scanline = p.scanline ∧ f.frame = p.frame + 1)

/-- R440 to R442: vblank is set at (241, 1) and cleared with the two sprite flags at (261, 1), whether rendering is enabled or
not; the NMI request is made at (241, 1) under the enable bit and nowhere else. -/
def Obligations.VblankAndNmi : Prop :=
  ∀ (unmapped : Byte) (mapper : Option Mapper) (p : Ppu),
    let r := ppuStep unmapped mapper p
    (p.scanline = 241 → p.dot = 1 → r.1.vblank = true ∧ r.2 = p.ctrl.getLsbD 7) ∧
    (p.scanline = 261 → p.dot = 1 → r.1.vblank = false ∧ r.1.sprite0Hit = false ∧ r.1.spriteOverflow = false) ∧
    (¬(p.scanline = 241 ∧ p.dot = 1) → r.2 = false) ∧
    (p.dot ≠ 1 ∨ (p.scanline ≠ 241 ∧ p.scanline ≠ 261) → r.1.vblank = p.vblank)

/-- R423, R427: a visible dot writes exactly its own pixel of the back buffer, with rendering disabled the backdrop colour; a
dot that is not visible writes none. -/
def Obligations.OnePixelPerVisibleDot : Prop :=
  ∀ (unmapped : Byte) (mapper : Option Mapper) (p : Ppu) (x y : Nat), PpuWf p → x < 256 → y < 240 →
    ¬(p.scanline = 261 ∧ p.dot = 340) →
    let q := (ppuStep unmapped mapper p).1
    (1 ≤ p.dot → p.dot ≤ 256 → p.scanline ≤ 239 →
      readPixel q.back x y =
        if x + 1 = p.dot ∧ y = p.scanline then .colour (p.colourOf (p.pixelIndex x).1) else readPixel p.back x y) ∧
    (p.dot = 0 ∨ 256 < p.dot ∨ 239 < p.scanline → q.back = p.back) ∧
    (p.rendering = false → p.mask.getLsbD 0 = false →
      p.colourOf (p.pixelIndex x).1 = Store.read 0#6 p.palette 0)

/-- R446: from the start of a frame, after 89342 dots every pixel of the front buffer has been drawn. -/
def Obligations.FrameIsFullyDrawn : Prop :=
  ∀ (unmapped : Byte) (mapper : Option Mapper) (p : Ppu), PpuWf p → p.dot = 0 → p.scanline = 0 →
    ∀ x y : Nat, x < 256 → y < 240 →
      ∃ c : BitVec 6, readPixel (ppuRun unmapped mapper 89342 p).1.front x y = .colour c

/-- R435: sprite evaluation counts the sprites in range, keeps the first eight in OAM order, and sets the overflow flag exactly
when there are more than eight. -/
def Obligations.SpriteEvaluation : Prop :=
  ∀ (read : BitVec 14 → Byte) (s : Nat) (p : Ppu),
    let row := fun i : Nat => s - (p.oam.read (4 * i)).toNat
    let inRange := (List.range 64).filter fun i =>
      decide ((p.oam.read (4 * i)).toNat ≤ s ∧ row i < if p.ctrl.getLsbD 5 then 16 else 8)
    let q := p.evaluateSprites read s
    q.sprCount = min 8 inRange.length ∧
    q.spriteOverflow = (p.spriteOverflow || decide (8 < inRange.length)) ∧
    ∀ k i : Nat, k < 8 → inRange[k]? = some i →
      q.spr.toList[k]? = some { pattern := p.spriteRow read (p.oam.read (4 * i + 1)) (p.oam.read (4 * i + 2)) (row i)
                                x := p.oam.read (4 * i + 3)
                                prio := (p.oam.read (4 * i + 2)).getLsbD 5
                                index := BitVec.ofNat 6 i }

/-! ### The APU -/

/-- R501 to R508, R510, R511, R513: the write of each APU register, as the whole state after it, fields in plain arithmetic: the
two pulse channels, the triangle, the noise channel, the DMC, the channel enables, the frame sequencer, and the two unused
addresses. What a clause does not name is unchanged. -/
def Obligations.ApuRegisterWrites : Prop :=
  ∀ (v : Byte) (s : State),
    let n := v.toNat
    let low := fun period : BitVec 11 => BitVec.ofNat 11 (period.toNat / 256 * 256 + n)
    let high := fun period : BitVec 11 => BitVec.ofNat 11 (n % 8 * 256 + period.toNat % 256)
    let load := fun (enabled : Bool) (length : Byte) => if enabled then lengthTable.getD (n / 8) 0#8 else length
    let kept := fun (on : Bool) (length : Byte) => if on then length else 0#8
    let with_ := fun u : Apu => ({ s with apu := u } : State)
    let u := s.apu
    let duty := fun p : Pulse => ({ p with
      duty := BitVec.ofNat 2 (n / 64), halt := v.getLsbD 5, constant := v.getLsbD 4, vol := BitVec.ofNat 4 (n % 16) } : Pulse)
    let sweep := fun p : Pulse => ({ p with
      sweepEn := v.getLsbD 7, sweepPeriod := BitVec.ofNat 3 (n / 16 % 8), sweepNeg := v.getLsbD 3
      sweepShift := BitVec.ofNat 3 (n % 8), sweepReload := true } : Pulse)
    let timerLow := fun p : Pulse => ({ p with period := low p.period } : Pulse)
    let timerHigh := fun p : Pulse => ({ p with
      period := high p.period, length := load p.enabled p.length, seq := 0#3
      env := { p.env with start := true } } : Pulse)
    let dmc := { u.dmc with irqFlag := false }
    let seq := { u with
      seqMode := v.getLsbD 7, irqInhibit := v.getLsbD 6, seqCycle := 0
      frameIrq := if v.getLsbD 6 then false else u.frameIrq }
    memWrite 0x4000#16 v s = with_ { u with pulse1 := duty u.pulse1 } ∧
    memWrite 0x4001#16 v s = with_ { u with pulse1 := sweep u.pulse1 } ∧
    memWrite 0x4002#16 v s = with_ { u with pulse1 := timerLow u.pulse1 } ∧
    memWrite 0x4003#16 v s = with_ { u with pulse1 := timerHigh u.pulse1 } ∧
    memWrite 0x4004#16 v s = with_ { u with pulse2 := duty u.pulse2 } ∧
    memWrite 0x4005#16 v s = with_ { u with pulse2 := sweep u.pulse2 } ∧
    memWrite 0x4006#16 v s = with_ { u with pulse2 := timerLow u.pulse2 } ∧
    memWrite 0x4007#16 v s = with_ { u with pulse2 := timerHigh u.pulse2 } ∧
    memWrite 0x4008#16 v s = with_ { u with
      tri := { u.tri with control := v.getLsbD 7, linPeriod := BitVec.ofNat 7 (n % 128) } } ∧
    memWrite 0x4009#16 v s = s ∧
    memWrite 0x400A#16 v s = with_ { u with tri := { u.tri with period := low u.tri.period } } ∧
    memWrite 0x400B#16 v s = with_ { u with
      tri := { u.tri with
        period := high u.tri.period, length := load u.tri.enabled u.tri.length, linReload := true } } ∧
    memWrite 0x400C#16 v s = with_ { u with
      noise := { u.noise with
        halt := v.getLsbD 5, constant := v.getLsbD 4, vol := BitVec.ofNat 4 (n % 16) } } ∧
    memWrite 0x400D#16 v s = s ∧
    memWrite 0x400E#16 v s = with_ { u with
      noise := { u.noise with mode := v.getLsbD 7, rate := BitVec.ofNat 4 (n % 16) } } ∧
    memWrite 0x400F#16 v s = with_ { u with
      noise := { u.noise with
        length := load u.noise.enabled u.noise.length, env := { u.noise.env with start := true } } } ∧
    memWrite 0x4010#16 v s = with_ { u with
      dmc := { u.dmc with
        irqEn := v.getLsbD 7, loop := v.getLsbD 6, rate := BitVec.ofNat 4 (n % 16)
        irqFlag := if v.getLsbD 7 then u.dmc.irqFlag else false } } ∧
    memWrite 0x4011#16 v s = with_ { u with dmc := { u.dmc with level := BitVec.ofNat 7 (n % 128) } } ∧
    memWrite 0x4012#16 v s = with_ { u with dmc := { u.dmc with sampleAddr := BitVec.ofNat 16 (0xC000 + 64 * n) } } ∧
    memWrite 0x4013#16 v s = with_ { u with dmc := { u.dmc with sampleLen := BitVec.ofNat 12 (16 * n + 1) } } ∧
    memWrite 0x4015#16 v s = with_ { u with
      pulse1 := { u.pulse1 with enabled := v.getLsbD 0, length := kept (v.getLsbD 0) u.pulse1.length }
      pulse2 := { u.pulse2 with enabled := v.getLsbD 1, length := kept (v.getLsbD 1) u.pulse2.length }
      tri := { u.tri with enabled := v.getLsbD 2, length := kept (v.getLsbD 2) u.tri.length }
      noise := { u.noise with enabled := v.getLsbD 3, length := kept (v.getLsbD 3) u.noise.length }
      dmc := if v.getLsbD 4 = false then { dmc with bytesRemaining := 0#12 }
        else if dmc.bytesRemaining = 0#12 then { dmc with curAddr := dmc.sampleAddr, bytesRemaining := dmc.sampleLen }
        else dmc } ∧
    memWrite 0x4017#16 v s = with_ (if v.getLsbD 7 then seq.quarterFrame.halfFrame else seq)

/-- R512: the status byte of the APU, bit by bit, and what its read clears. -/
def Obligations.ApuStatusRead : Prop :=
  ∀ s : State,
    let r := memRead 0x4015#16 s
    r.1.getLsbD 0 = decide (0 < s.apu.pulse1.length.toNat) ∧ r.1.getLsbD 1 = decide (0 < s.apu.pulse2.length.toNat) ∧
    r.1.getLsbD 2 = decide (0 < s.apu.tri.length.toNat) ∧ r.1.getLsbD 3 = decide (0 < s.apu.noise.length.toNat) ∧
    r.1.getLsbD 4 = decide (0 < s.apu.dmc.bytesRemaining.toNat) ∧ r.1.getLsbD 5 = false ∧
    r.1.getLsbD 6 = s.apu.frameIrq ∧ r.1.getLsbD 7 = s.apu.dmc.irqFlag ∧
    r.2 = { s with apu := { s.apu with frameIrq := false } }

/-- R521, R526, R528, R529: the four kinds of timer. Wherever a timer stands, its generator steps once, and the timer reloads,
after one clock more than the timer holds; from 0 the whole period is period + 1 clocks for a pulse and for the triangle
(which steps only while both its counters run), and half the table period for the noise register and for the DMC. One DMC
output bit moves the level by two within 0 to 127 unless silenced; the eighth takes the buffered byte, or silences. -/
def Obligations.ChannelTimers : Prop :=
  (∀ p : Pulse,
    Nat.repeat Pulse.clockTimer (p.timer.toNat + 1) p = { p with timer := p.period, seq := p.seq + 1#3 } ∧
    (p.timer = 0#11 → Nat.repeat Pulse.clockTimer (p.period.toNat + 1) p = { p with seq := p.seq + 1#3 })) ∧
  (∀ t : Triangle,
    let seq := if t.length ≠ 0#8 ∧ t.lin ≠ 0#7 then t.seq + 1#5 else t.seq
    Nat.repeat Triangle.clockTimer (t.timer.toNat + 1) t = { t with timer := t.period, seq := seq } ∧
    (t.timer = 0#11 → Nat.repeat Triangle.clockTimer (t.period.toNat + 1) t = { t with seq := seq })) ∧
  (∀ n : Noise,
    let half := noisePeriod.getD n.rate.toNat 0 / 2
    Nat.repeat Noise.clockTimer (n.timer.toNat + 1) n =
      { n with timer := BitVec.ofNat 12 (half - 1), lfsr := n.shifted } ∧
    (n.timer = 0#12 → Nat.repeat Noise.clockTimer half n = { n with lfsr := n.shifted })) ∧
  ∀ d : Dmc,
    let half := dmcRate.getD d.rate.toNat 0 / 2
    let level := if d.silence then d.level
      else if d.shift.getLsbD 0 then (if d.level.toNat ≤ 125 then d.level + 2#7 else d.level)
      else (if 2 ≤ d.level.toNat then d.level - 2#7 else d.level)
    let e := Nat.repeat Dmc.clockTimer (d.timer.toNat + 1) d
    (d.timer = 0#9 → Nat.repeat Dmc.clockTimer half d = { e with timer := 0#9 }) ∧
    (2 ≤ d.bitsRemaining → e = { d with
      timer := BitVec.ofNat 9 (half - 1), level := level
      shift := BitVec.ofNat 8 (d.shift.toNat / 2), bitsRemaining := d.bitsRemaining - 1 }) ∧
    (d.bitsRemaining = 1 → d.bufferFull = true → e = { d with
      timer := BitVec.ofNat 9 (half - 1), level := level
      shift := d.buffer, bitsRemaining := 8, silence := false, bufferFull := false }) ∧
    (d.bitsRemaining = 1 → d.bufferFull = false → e = { d with
      timer := BitVec.ofNat 9 (half - 1), level := level
      shift := BitVec.ofNat 8 (d.shift.toNat / 2), bitsRemaining := 8, silence := true })

/-- R531, R532, R537: one whole round of the frame sequencer. In 4-step mode it takes 29830 cycles, raises the frame IRQ
unless inhibited, at cycle 29829 and not before; in 5-step mode it takes 37282 and never raises it; in both a length
counter is clocked twice. -/
def Obligations.FrameSequencer : Prop :=
  ∀ u : Apu, u.seqCycle = 0 →
    let twice := clockLength u.noise.halt (clockLength u.noise.halt u.noise.length)
    (u.seqMode = false →
      (∀ n, n < 29829 → (Nat.repeat Apu.sequencer n u).frameIrq = u.frameIrq) ∧
      (Nat.repeat Apu.sequencer 29829 u).frameIrq = (u.frameIrq || !u.irqInhibit) ∧
      (Nat.repeat Apu.sequencer 29830 u).seqCycle = 0 ∧
      (Nat.repeat Apu.sequencer 29830 u).noise.length = twice) ∧
    (u.seqMode = true →
      (∀ n, n ≤ 37282 → (Nat.repeat Apu.sequencer n u).frameIrq = u.frameIrq) ∧
      (Nat.repeat Apu.sequencer 37282 u).seqCycle = 0 ∧
      (Nat.repeat Apu.sequencer 37282 u).noise.length = twice)

/-- R533: the sample clock never drifts: `n` cycles append exactly as many samples as whole periods have passed and leave the
remainder in the accumulator. -/
def Obligations.SampleClockIsExact : Prop :=
  ∀ (cfg : Params) (n : Nat) (u : Apu), cfg.sampleRate ≤ cfg.cpuHz → u.sampleAcc < cfg.cpuHz →
    let v := Nat.repeat (Apu.sampleClock cfg) n u
    v.sampleAcc = (u.sampleAcc + n * cfg.sampleRate) % cfg.cpuHz ∧
    v.queue.length = u.queue.length + (u.sampleAcc + n * cfg.sampleRate) / cfg.cpuHz ∧
    u.queue <+: v.queue

/-- R534: the mixer's ratio is the formula of the rule, as a rational number, for the values the five channels can put out; it
is at least 0 and below 1; the sample is the floor of 32767 times it, at most 32766; and `mix` is that sample of the five
channels' outputs. -/
def Obligations.MixerFormula : Prop :=
  (∀ u : Apu, u.mix.toNat =
    mixSample (u.pulse1.out true + u.pulse2.out false) u.tri.out u.noise.out u.dmc.level.toNat ∧
    u.pulse1.out true + u.pulse2.out false ≤ 30 ∧ u.tri.out ≤ 15 ∧ u.noise.out ≤ 15 ∧ u.dmc.level.toNat ≤ 127) ∧
  ∀ p t n d : Nat, p ≤ 30 → t ≤ 15 → n ≤ 15 → d ≤ 127 →
    let r := mixRatio p t n d
    let pulse : ℚ := if p = 0 then 0 else 95.88 / (8128 / p + 100)
    let tnd : ℚ := if t = 0 ∧ n = 0 ∧ d = 0 then 0 else
      159.79 / (1 / ((t : ℚ) / 8227 + (n : ℚ) / 12241 + (d : ℚ) / 22638) + 100)
    (r.1 : ℚ) / (r.2 : ℚ) = pulse + tnd ∧ 0 ≤ pulse + tnd ∧ pulse + tnd < 1 ∧
      (mixSample p t n d : ℤ) = ⌊32767 * (pulse + tnd)⌋ ∧ mixSample p t n d ≤ 32766

/-- R530: the DMC reader, when it wants a byte: the byte comes through the Bus, the stall is charged to the next step, the
address wraps from 0xFFFF to 0x8000, and the end of a sample restarts it or raises the IRQ. -/
def Obligations.DmcReader : Prop :=
  ∀ s : State, s.apu.dmc.bufferFull = false → s.apu.dmc.bytesRemaining ≠ 0#12 → 0x8000 ≤ s.apu.dmc.curAddr.toNat →
    let d := s.apu.dmc
    let e := (dmcReader s).apu.dmc
    let next : Nat := if d.curAddr.toNat = 0xFFFF then 0x8000 else d.curAddr.toNat + 1
    e.buffer = (memRead d.curAddr s).1 ∧ e.bufferFull = true ∧
    dmcReader s = { s with
      apu := { s.apu with dmc := e }
      console := { s.console with pendingStall := s.console.pendingStall + s.cfg.dmcStallCycles } } ∧
    (1 < d.bytesRemaining.toNat →
      e.curAddr.toNat = next ∧ e.bytesRemaining.toNat + 1 = d.bytesRemaining.toNat ∧ e.irqFlag = d.irqFlag) ∧
    (d.bytesRemaining = 1#12 → d.loop = true →
      e.curAddr = d.sampleAddr ∧ e.bytesRemaining = d.sampleLen ∧ e.irqFlag = d.irqFlag) ∧
    (d.bytesRemaining = 1#12 → d.loop = false →
      e.curAddr.toNat = next ∧ e.bytesRemaining = 0#12 ∧ e.irqFlag = (d.irqFlag || d.irqEn))

/-! ### The Console -/

/-- R601, R602, R604, R621: a step with a cartridge: one CPU step from cleared stalls, the cycles `n` with the carried stall
and the DMA's 513 or 514 by the parity of the count at the end of the instruction, 3n dots with the NMI latched for the
next poll, n APU cycles, and the count. In a state with the invariant the DMC reads cartridge space alone (R530), so the PPU
ends as those dots leave it. -/
def Obligations.ConsoleStep : Prop :=
  ∀ s : State, s.console.loaded = true → ∃ u : State, cpuStep (clearStalls s) = .next u ∧
    let e := s.console.cycles + s.console.pendingStall + u.cpuReturn
    let n := s.console.pendingStall + u.cpuReturn + if u.console.dmaStall = 0 then 0 else 513 + e % 2
    let p := ppuRun u.cfg.unmappedRead u.mapper (3 * n) u.ppu
    ∃ t : State, step s = .next t ∧ t.consoleReturn = n ∧ 2 ≤ n ∧ t.console.cycles = s.console.cycles + n ∧
      t.console.dmaStall = 0 ∧ t.cpu = { u.cpu with nmiPending := u.cpu.nmiPending || p.2 } ∧
      t.ram = u.ram ∧ t.cfg = u.cfg ∧ t.mapper = u.mapper ∧ t.apu = (apuRun n (ppuAdvance (3 * n) u)).apu ∧
      t.ppu.dot = p.1.dot ∧ t.ppu.scanline = p.1.scanline ∧ t.ppu.frame = p.1.frame ∧
      (Wf s → t.ppu = p.1)

/-- R620: an OAM DMA copies the 256 bytes of the page into OAM from the current address on, wrapping, ends with the address
where it began, leaves the stall marker, and changes no register; its reads have no other effect when the page holds no
device register. -/
def Obligations.OamDmaCopies : Prop :=
  ∀ (page : Byte) (s : State),
    let t := memWrite 0x4014#16 page s
    t.ppu.oamAddr = s.ppu.oamAddr ∧ t.console.dmaStall = 513 ∧ t.cpu = s.cpu ∧ t.ram = s.ram ∧
    (s.ppu.oam.wf 256 = true → page.toNat < 0x20 ∨ 0x41 ≤ page.toNat →
      (∀ k : Nat, k < 256 →
        t.ppu.oam.read ((s.ppu.oamAddr.toNat + k) % 256) = (memRead (word page (BitVec.ofNat 8 k)) s).1) ∧
      t = { s with
        ppu := { s.ppu with oam := t.ppu.oam }
        console := { s.console with dmaStall := 513 } })

/-- R626 to R628, R834: with the default PAD_MAP the buttons set A, B, Select, Start, Up, Down, Left and Right, and setting them
changes nothing but the pad (that set_button_state takes the whole input record is the model's choice, log 13). After 1 then
0 is written to 0x4016, the first eight reads give the eight bits of the pad from bit 0 up and every later read gives 1; while
the strobe is 1 every read gives bit 0 and shifts nothing. -/
def Obligations.PadReadsInOrder : Prop :=
  ∀ (s : State) (input : Input) (v : Byte) (k : Nat),
    let order := [input.face0, input.face1, input.select, input.start, input.up, input.down, input.left, input.right]
    let latched := memWrite 0x4016#16 0#8 (memWrite 0x4016#16 1#8 s)
    let t := Nat.repeat (fun u => (memRead 0x4016#16 u).2) k latched
    (∃ pad, setButtonState input s = { s with console := { s.console with pad := pad } } ∧
      (s.cfg.padMap = PadMap.standard → pad.getLsbD k = order.getD k false)) ∧
    (memRead 0x4016#16 t).1 = (if k < 8 then (if s.console.pad.getLsbD k then 1#8 else 0#8) else 1#8) ∧
    (v.getLsbD 0 = true →
      let held := memWrite 0x4016#16 v s
      memRead 0x4016#16 held = (if s.console.pad.getLsbD 0 then 1#8 else 0#8, held))

/-- R610 to R613: run_frame ends, keeps the invariant, moves the target by one frame's dots, reaches it, and overshoots it by
less than the dots of its last step; the pad stays as the input set it. -/
def Obligations.RunFrameReachesItsTarget : Prop :=
  ∀ (input : Input) (s : State), Inv s → s.console.loaded = true →
    ∃ t : State, runFrame input s = .next t ∧ Inv t ∧
      t.console.frameTarget3 = s.console.frameTarget3 + 89342 ∧
      t.console.frameTarget3 ≤ 3 * t.console.cycles ∧
      (3 * s.console.cycles < t.console.frameTarget3 →
        3 * t.console.cycles < t.console.frameTarget3 + 3 * t.consoleReturn) ∧
      t.console.pad = padEncode s.cfg.padMap input

/-- R616, R60, R63, R65: Console.reset: the CPU through the reset vector, the PPU's latches, counters and pipeline, the APU as
at construction, the counters and the controller; work RAM, the Mapper, the PPU's memories and both framebuffers stay. -/
def Obligations.ConsoleResetResult : Prop :=
  ∀ s : State,
    let t := consoleReset s
    t.cpu = { a := 0#8, x := 0#8, y := 0#8, s := 0xFD#8, pc := vectorWord 0xFFFC#16 s, c := false, z := false
              i := true, d := false, v := false, n := false, nmiPending := false, jammed := false } ∧
    t.ppu = { s.ppu with
      ctrl := 0#8, mask := 0#8, oamAddr := 0#8, vblank := false, sprite0Hit := false, spriteOverflow := false
      v := 0#15, t := 0#15, x := 0#3, w := false, readBuffer := 0#8, dot := 0, scanline := 0, frame := 0
      ntLatch := 0#8, atLatch := 0#2, patLo := 0#8, patHi := 0#8, bgQueue := 0#64, sprCount := 0
      spr := Vector.replicate 8 { pattern := 0#32, x := 0#8, prio := false, index := 0#6 } } ∧
    t.apu = State.reset.apu ∧
    t.console = { cycles := 0, frameTarget3 := 0, pendingStall := 0, dmaStall := 0, loaded := s.console.loaded
                  pad := 0#8, padShift := 0#8, strobe := false } ∧
    t.ram = s.ram ∧ t.mapper = s.mapper ∧ t.cfg = s.cfg

/-- R95 to R97, R614, R615: load_rom rejects an image for each of the reasons of R96 and then changes nothing. It accepts every
other image: it installs PRG, CHR (ROM bytes, or RAM all zero) and the mirroring of the header, sets loaded, and performs
Console.reset; the PC of a one-bank image without trainer is the word at file offsets 0x400C and 0x400D. That id 0 is the
only mapper id accepted is the model's choice of log 8 (R6's default). -/
def Obligations.LoadRomValidates : Prop :=
  ∀ (bytes : List Byte) (s : State),
    let b := fun k : Nat => bytes.getD k 0#8
    let trainer := if (b 6).getLsbD 2 then 512 else 0
    let prgLen := 16384 * (b 4).toNat
    let chrLen := 8192 * (b 5).toNat
    let bad := bytes.length < 16 ∨ ¬(b 0 = 0x4E#8 ∧ b 1 = 0x45#8 ∧ b 2 = 0x53#8 ∧ b 3 = 0x1A#8) ∨
      bytes.length < 16 + trainer + prgLen + chrLen ∨ b 4 = 0#8 ∨
      (b 6).toNat / 16 + (b 7).toNat / 16 * 16 ≠ 0
    let t := (loadRom bytes s).2
    (bad → loadRom bytes s = (some .cartridgeParse, s)) ∧
    (¬bad → ∃ m : FixedMapper,
      loadRom bytes s = (none, consoleReset { s with
        mapper := some (.fixed m), console := { s.console with loaded := true } }) ∧
      m.prgBanks = (b 4).toNat ∧ m.chrBanks = (b 5).toNat ∧
      m.mirroring = (if (b 6).getLsbD 0 then .vertical else .horizontal) ∧
      (∀ k, k < prgLen → m.prg.read k = b (16 + trainer + k)) ∧
      (∀ k, k < chrLen → m.chr.read k = b (16 + trainer + prgLen + k)) ∧
      (b 5 = 0#8 → m.chr = [])) ∧
    (¬bad →
      t.console = { Console.init with loaded := true } ∧ t.apu = State.reset.apu ∧
      t.cpu = { State.reset.cpu with pc := vectorWord 0xFFFC#16 t } ∧
      t.ram = s.ram ∧ t.ppu.vram = s.ppu.vram ∧ t.ppu.palette = s.ppu.palette ∧ t.ppu.oam = s.ppu.oam ∧
      t.ppu.back = s.ppu.back ∧ t.ppu.front = s.ppu.front ∧
      (∀ a : Addr, 0x8000 ≤ a.toNat → (memRead a t).1 = b (16 + trainer + (a.toNat - 0x8000) % prgLen)) ∧
      (b 4 = 1#8 → trainer = 0 → t.cpu.pc = word (b 0x400D) (b 0x400C)))

/-- R635, R636: with a cartridge loaded, a snapshot loaded into a machine with the same cartridge gives the saved state back,
whole, and different states of one cartridge have different snapshots; a load that fails leaves the state as it was, with the
version error. -/
def Obligations.SaveAndLoadState : Prop :=
  (∀ s t : State, s.console.loaded = true → t.console.loaded = true → SameCartridge s.mapper t.mapper → t.cfg = s.cfg →
    ∃ b, saveState s = .ok b ∧ loadState b t = .ok (none, s) ∧ (saveState t = .ok b → t = s)) ∧
  (∀ (b : Blob) (s t : State) (e : HostError), loadState b s = .ok (some e, t) → e = .stateVersionMismatch ∧ t = s) ∧
  (∀ (version : Nat) (body : Snapshot) (s : State), s.console.loaded = true → version ≠ stateVersion →
    loadState (.snapshot version body) s = .ok (some .stateVersionMismatch, s))

/-! ### The invariant -/

/-- R605, R35 to R45: every step keeps the invariant: canonical memories, counters in their ranges, the noise register not zero,
the DMC in its window, and the PPU exactly three dots ahead for each CPU cycle since reset. -/
def Obligations.StepKeepsInvariant : Prop :=
  ∀ s t : State, Inv s → step s = .next t → Inv t

/-- R60 to R65, R801: the state at construction has the invariant, the values the rules give, and no cartridge. -/
def Obligations.ResetState : Prop :=
  Inv State.reset ∧ State.reset.cpu.s = 0xFD#8 ∧ State.reset.cpu.packP false = 0x24#8 ∧ State.reset.cpu.pc = 0#16 ∧
    State.reset.cpu.a = 0#8 ∧ State.reset.cpu.x = 0#8 ∧ State.reset.cpu.y = 0#8 ∧
    State.reset.apu.noise.lfsr = 1#15 ∧ State.reset.apu.dmc.sampleAddr = 0xC000#16 ∧
    State.reset.apu.dmc.sampleLen = 1#12 ∧ State.reset.apu.dmc.bitsRemaining = 8 ∧
    State.reset.apu.dmc.silence = true ∧ State.reset.mapper = none ∧ State.reset.console.loaded = false

/-- The model's choice, log 3 (R600 gives no behaviour without a cartridge): a step, a reset, a frame and the two snapshot
operations are refused until one is loaded; with one, every step answers a next state. -/
def Obligations.StepNeedsACartridge : Prop :=
  ∀ (input : Input) (b : Blob) (s : State),
    (s.console.loaded = false → step s = .refused .noCartridge ∧ hostReset s = .refused .noCartridge ∧
      runFrame input s = .refused .noCartridge ∧ saveState s = .error .noCartridge ∧
      loadState b s = .error .noCartridge) ∧
    (s.console.loaded = true → (∃ t, step s = .next t) ∧ hostReset s = .next (consoleReset s))
end

