-- ==== Sys2Proof/Laws/Memory.lean ====
section
/-! SUPPORT. The laws of a sparse store: a read after a write, and the canonical form that every write keeps. -/
namespace Sys2Proof.Machine

variable {α : Type}

theorem Store.read_nil (d : α) (a : Nat) : Store.read d [] a = d := rfl

/-- Below the first possible key everything reads the default. -/
theorem Store.read_below [DecidableEq α] (d : α) {size low a : Nat} {m : Store α}
    (h : Store.wfFrom d size low m = true) (ha : a < low) : Store.read d m a = d := by
  cases m with
  | nil => rfl
  | cons c m =>
    obtain ⟨k, v⟩ := c
    simp only [Store.wfFrom, Bool.and_eq_true, decide_eq_true_eq] at h
    rw [Store.read, if_pos (by omega)]

theorem Store.read_write_same [DecidableEq α] (d : α) {size low : Nat} {m : Store α}
    (h : Store.wfFrom d size low m = true) (a : Nat) (v : α) : Store.read d (Store.write d m a v) a = v := by
  induction m generalizing low with
  | nil => by_cases hv : v = d <;> simp [Store.write, Store.read, hv]
  | cons c m ih =>
    obtain ⟨k, w⟩ := c
    simp only [Store.wfFrom, Bool.and_eq_true, decide_eq_true_eq] at h
    obtain ⟨_, hm⟩ := h
    rw [Store.write]
    split
    · split <;> simp [Store.read, *]
    · split
      · split
        · subst_vars; exact Store.read_below _ hm (Nat.lt_succ_self _)
        · simp [Store.read]
      · rename_i h1 h2
        simp [Store.read, h1, h2, ih hm]

theorem Store.read_write_other [DecidableEq α] (d : α) {size low : Nat} {m : Store α}
    (h : Store.wfFrom d size low m = true) {a b : Nat} (hab : b ≠ a) (v : α) :
    Store.read d (Store.write d m a v) b = Store.read d m b := by
  induction m generalizing low with
  | nil =>
    by_cases hv : v = d
    · simp [Store.write, hv]
    · by_cases hb : b < a <;> simp [Store.write, Store.read, hv, hb, hab]
  | cons c m ih =>
    obtain ⟨k, w⟩ := c
    simp only [Store.wfFrom, Bool.and_eq_true, decide_eq_true_eq] at h
    obtain ⟨_, hm⟩ := h
    rw [Store.write]
    split
    · split
      · rfl
      · by_cases hb : b < a
        · simp [Store.read, hb, show b < k by omega]
        · simp [Store.read, hb, hab]
    · split
      · rename_i h1 h2
        subst h2
        split
        · by_cases hb : b < a
          · simp [Store.read, hb, Store.read_below d hm (show b < a + 1 by omega)]
          · simp [Store.read, hb, hab]
        · simp [Store.read, hab]
      · simp only [Store.read, ih hm]

/-- A canonical form from a higher address is one from a lower address. -/
theorem Store.wfFrom_mono [DecidableEq α] (d : α) {size low low' : Nat} {m : Store α}
    (h : Store.wfFrom d size low m = true) (hl : low' ≤ low) : Store.wfFrom d size low' m = true := by
  cases m with
  | nil => rfl
  | cons c m =>
    obtain ⟨k, v⟩ := c
    simp only [Store.wfFrom, Bool.and_eq_true, decide_eq_true_eq] at h ⊢
    exact ⟨⟨⟨by omega, h.1.1.2⟩, h.1.2⟩, h.2⟩

theorem Store.wfFrom_write [DecidableEq α] (d : α) {size low : Nat} {m : Store α}
    (h : Store.wfFrom d size low m = true) {a : Nat} (hl : low ≤ a) (hs : a < size) (v : α) :
    Store.wfFrom d size low (Store.write d m a v) = true := by
  induction m generalizing low with
  | nil => by_cases hv : v = d <;> simp [Store.write, Store.wfFrom, hv, hl, hs]
  | cons c m ih =>
    obtain ⟨k, w⟩ := c
    simp only [Store.wfFrom, Bool.and_eq_true, decide_eq_true_eq] at h
    obtain ⟨⟨⟨h1, h2⟩, h3⟩, hm⟩ := h
    rw [Store.write]
    split
    · split
      · simp [Store.wfFrom, h1, h2, h3, hm]
      · simp [Store.wfFrom, *] <;> omega
    · split
      · subst_vars
        split
        · exact Store.wfFrom_mono d hm (by omega)
        · simp [Store.wfFrom, *]
      · simp only [Store.wfFrom, Bool.and_eq_true, decide_eq_true_eq]
        exact ⟨⟨⟨h1, h2⟩, h3⟩, ih hm (by omega)⟩

/-- Every write keeps the canonical form. -/
theorem Store.wf_write [DecidableEq α] (d : α) {size : Nat} {m : Store α} (h : Store.wf d size m = true) {a : Nat}
    (hs : a < size) (v : α) : Store.wf d size (Store.write d m a v) = true :=
  Store.wfFrom_write d h (Nat.zero_le a) hs v

theorem Memory.wf_write {size : Nat} {m : Memory} (h : m.wf size = true) {a : Nat} (hs : a < size) (v : Byte) :
    (m.write a v).wf size = true := Store.wf_write _ h hs v

theorem Memory.read_write_same {size : Nat} {m : Memory} (h : m.wf size = true) (a : Nat) (v : Byte) :
    (m.write a v).read a = v := Store.read_write_same _ h a v

theorem Memory.read_write_other {size : Nat} {m : Memory} (h : m.wf size = true) {a b : Nat} (hab : b ≠ a) (v : Byte) :
    (m.write a v).read b = m.read b := Store.read_write_other _ h hab v

/-- A list of bytes laid out from `base` is canonical. -/
theorem Memory.wfFrom_ofBytes (bytes : List Byte) (base size : Nat) (h : base + bytes.length ≤ size) :
    Store.wfFrom Memory.unwritten size base (Memory.ofBytes base bytes) = true := by
  induction bytes generalizing base with
  | nil => rfl
  | cons b bs ih =>
    simp only [List.length_cons] at h
    rw [Memory.ofBytes]
    have hi := ih (base + 1) (by omega)
    split
    · exact Store.wfFrom_mono _ hi (by omega)
    · simp only [Store.wfFrom, Bool.and_eq_true, decide_eq_true_eq]
      exact ⟨⟨⟨Nat.le_refl _, by omega⟩, by assumption⟩, hi⟩

/-- A list of bytes laid out from 0 reads as the list, and as the default past its end. -/
theorem Memory.read_ofBytes (bytes : List Byte) (base k : Nat) :
    Memory.read (Memory.ofBytes base bytes) (base + k) = bytes.getD k Memory.unwritten := by
  induction bytes generalizing base k with
  | nil => simp [Memory.ofBytes, Memory.read, Store.read]
  | cons b bs ih =>
    rw [Memory.ofBytes]
    cases k with
    | zero =>
      split
      · subst_vars
        have hwf := Memory.wfFrom_ofBytes bs (base + 1) (base + 1 + bs.length) (Nat.le_refl _)
        simpa [Memory.read] using Store.read_below Memory.unwritten hwf (Nat.lt_succ_self base)
      · simp [Memory.read, Store.read]
    | succ k =>
      have h := ih (base + 1) k
      rw [show base + 1 + k = base + (k + 1) by omega] at h
      split
      · simpa using h
      · simp only [Memory.read, Store.read] at h ⊢
        rw [if_neg (by omega), if_neg (by omega), h]
        simp

end Sys2Proof.Machine
end

