-- ==== Sys2Proof/Laws/State.lean ====
section
/-! SUPPORT. One lemma for each field of each named update, true by rfl: no later proof unfolds a record update. -/
namespace Sys2Proof.Machine

/-! ### Updates of the whole state -/
@[simp] theorem State.mapCpu_cfg (f : Cpu → Cpu) (s : State) : (s.mapCpu f).cfg = s.cfg := rfl
@[simp] theorem State.mapCpu_cpu (f : Cpu → Cpu) (s : State) : (s.mapCpu f).cpu = f s.cpu := rfl
@[simp] theorem State.mapCpu_ram (f : Cpu → Cpu) (s : State) : (s.mapCpu f).ram = s.ram := rfl
@[simp] theorem State.mapCpu_mapper (f : Cpu → Cpu) (s : State) : (s.mapCpu f).mapper = s.mapper := rfl
@[simp] theorem State.mapCpu_ppu (f : Cpu → Cpu) (s : State) : (s.mapCpu f).ppu = s.ppu := rfl
@[simp] theorem State.mapCpu_apu (f : Cpu → Cpu) (s : State) : (s.mapCpu f).apu = s.apu := rfl
@[simp] theorem State.mapCpu_console (f : Cpu → Cpu) (s : State) : (s.mapCpu f).console = s.console := rfl
@[simp] theorem State.mapCpu_cpuReturn (f : Cpu → Cpu) (s : State) : (s.mapCpu f).cpuReturn = s.cpuReturn := rfl
@[simp] theorem State.mapCpu_consoleReturn (f : Cpu → Cpu) (s : State) : (s.mapCpu f).consoleReturn = s.consoleReturn := rfl

@[simp] theorem State.setPc_cfg (a : Addr) (s : State) : (s.setPc a).cfg = s.cfg := rfl
@[simp] theorem State.setPc_cpu (a : Addr) (s : State) : (s.setPc a).cpu = { s.cpu with pc := a } := rfl
@[simp] theorem State.setPc_ram (a : Addr) (s : State) : (s.setPc a).ram = s.ram := rfl
@[simp] theorem State.setPc_mapper (a : Addr) (s : State) : (s.setPc a).mapper = s.mapper := rfl
@[simp] theorem State.setPc_ppu (a : Addr) (s : State) : (s.setPc a).ppu = s.ppu := rfl
@[simp] theorem State.setPc_apu (a : Addr) (s : State) : (s.setPc a).apu = s.apu := rfl
@[simp] theorem State.setPc_console (a : Addr) (s : State) : (s.setPc a).console = s.console := rfl
@[simp] theorem State.setPc_cpuReturn (a : Addr) (s : State) : (s.setPc a).cpuReturn = s.cpuReturn := rfl
@[simp] theorem State.setPc_consoleReturn (a : Addr) (s : State) : (s.setPc a).consoleReturn = s.consoleReturn := rfl

@[simp] theorem clearStalls_cfg (s : State) : (clearStalls s).cfg = s.cfg := rfl
@[simp] theorem clearStalls_cpu (s : State) : (clearStalls s).cpu = s.cpu := rfl
@[simp] theorem clearStalls_ram (s : State) : (clearStalls s).ram = s.ram := rfl
@[simp] theorem clearStalls_mapper (s : State) : (clearStalls s).mapper = s.mapper := rfl
@[simp] theorem clearStalls_ppu (s : State) : (clearStalls s).ppu = s.ppu := rfl
@[simp] theorem clearStalls_apu (s : State) : (clearStalls s).apu = s.apu := rfl
@[simp] theorem clearStalls_console (s : State) : (clearStalls s).console = { s.console with pendingStall := 0, dmaStall := 0 } := rfl
@[simp] theorem clearStalls_cpuReturn (s : State) : (clearStalls s).cpuReturn = s.cpuReturn := rfl
@[simp] theorem clearStalls_consoleReturn (s : State) : (clearStalls s).consoleReturn = s.consoleReturn := rfl

@[simp] theorem countCycles_cfg (n : Nat) (s : State) : (countCycles n s).cfg = s.cfg := rfl
@[simp] theorem countCycles_cpu (n : Nat) (s : State) : (countCycles n s).cpu = s.cpu := rfl
@[simp] theorem countCycles_ram (n : Nat) (s : State) : (countCycles n s).ram = s.ram := rfl
@[simp] theorem countCycles_mapper (n : Nat) (s : State) : (countCycles n s).mapper = s.mapper := rfl
@[simp] theorem countCycles_ppu (n : Nat) (s : State) : (countCycles n s).ppu = s.ppu := rfl
@[simp] theorem countCycles_apu (n : Nat) (s : State) : (countCycles n s).apu = s.apu := rfl
@[simp] theorem countCycles_console (n : Nat) (s : State) : (countCycles n s).console = { s.console with cycles := s.console.cycles + n, dmaStall := 0 } := rfl
@[simp] theorem countCycles_cpuReturn (n : Nat) (s : State) : (countCycles n s).cpuReturn = s.cpuReturn := rfl
@[simp] theorem countCycles_consoleReturn (n : Nat) (s : State) : (countCycles n s).consoleReturn = n := rfl

@[simp] theorem finish_next (n : Nat) (s : State) : finish n s = .next { s with cpuReturn := n } := rfl

@[simp] theorem ppuAdvance_cfg (n : Nat) (s : State) : (ppuAdvance n s).cfg = s.cfg := rfl
@[simp] theorem ppuAdvance_ram (n : Nat) (s : State) : (ppuAdvance n s).ram = s.ram := rfl
@[simp] theorem ppuAdvance_mapper (n : Nat) (s : State) : (ppuAdvance n s).mapper = s.mapper := rfl
@[simp] theorem ppuAdvance_apu (n : Nat) (s : State) : (ppuAdvance n s).apu = s.apu := rfl
@[simp] theorem ppuAdvance_console (n : Nat) (s : State) : (ppuAdvance n s).console = s.console := rfl
@[simp] theorem ppuAdvance_cpuReturn (n : Nat) (s : State) : (ppuAdvance n s).cpuReturn = s.cpuReturn := rfl
@[simp] theorem ppuAdvance_consoleReturn (n : Nat) (s : State) : (ppuAdvance n s).consoleReturn = s.consoleReturn := rfl
@[simp] theorem ppuAdvance_ppu (n : Nat) (s : State) :
    (ppuAdvance n s).ppu = (ppuRun s.cfg.unmappedRead s.mapper n s.ppu).1 := rfl

/-! ### Updates of the CPU -/
@[simp] theorem Cpu.setZN_a (v : Byte) (c : Cpu) : (c.setZN v).a = c.a := rfl
@[simp] theorem Cpu.setZN_x (v : Byte) (c : Cpu) : (c.setZN v).x = c.x := rfl
@[simp] theorem Cpu.setZN_y (v : Byte) (c : Cpu) : (c.setZN v).y = c.y := rfl
@[simp] theorem Cpu.setZN_s (v : Byte) (c : Cpu) : (c.setZN v).s = c.s := rfl
@[simp] theorem Cpu.setZN_pc (v : Byte) (c : Cpu) : (c.setZN v).pc = c.pc := rfl
@[simp] theorem Cpu.setZN_c (v : Byte) (c : Cpu) : (c.setZN v).c = c.c := rfl
@[simp] theorem Cpu.setZN_z (v : Byte) (c : Cpu) : (c.setZN v).z = decide (v = 0#8) := rfl
@[simp] theorem Cpu.setZN_i (v : Byte) (c : Cpu) : (c.setZN v).i = c.i := rfl
@[simp] theorem Cpu.setZN_d (v : Byte) (c : Cpu) : (c.setZN v).d = c.d := rfl
@[simp] theorem Cpu.setZN_v (v : Byte) (c : Cpu) : (c.setZN v).v = c.v := rfl
@[simp] theorem Cpu.setZN_n (v : Byte) (c : Cpu) : (c.setZN v).n = v.getLsbD 7 := rfl
@[simp] theorem Cpu.setZN_nmiPending (v : Byte) (c : Cpu) : (c.setZN v).nmiPending = c.nmiPending := rfl
@[simp] theorem Cpu.setZN_jammed (v : Byte) (c : Cpu) : (c.setZN v).jammed = c.jammed := rfl

@[simp] theorem Cpu.unpackP_a (p : Byte) (c : Cpu) : (c.unpackP p).a = c.a := rfl
@[simp] theorem Cpu.unpackP_x (p : Byte) (c : Cpu) : (c.unpackP p).x = c.x := rfl
@[simp] theorem Cpu.unpackP_y (p : Byte) (c : Cpu) : (c.unpackP p).y = c.y := rfl
@[simp] theorem Cpu.unpackP_s (p : Byte) (c : Cpu) : (c.unpackP p).s = c.s := rfl
@[simp] theorem Cpu.unpackP_pc (p : Byte) (c : Cpu) : (c.unpackP p).pc = c.pc := rfl
@[simp] theorem Cpu.unpackP_c (p : Byte) (c : Cpu) : (c.unpackP p).c = p.getLsbD 0 := rfl
@[simp] theorem Cpu.unpackP_z (p : Byte) (c : Cpu) : (c.unpackP p).z = p.getLsbD 1 := rfl
@[simp] theorem Cpu.unpackP_i (p : Byte) (c : Cpu) : (c.unpackP p).i = p.getLsbD 2 := rfl
@[simp] theorem Cpu.unpackP_d (p : Byte) (c : Cpu) : (c.unpackP p).d = p.getLsbD 3 := rfl
@[simp] theorem Cpu.unpackP_v (p : Byte) (c : Cpu) : (c.unpackP p).v = p.getLsbD 6 := rfl
@[simp] theorem Cpu.unpackP_n (p : Byte) (c : Cpu) : (c.unpackP p).n = p.getLsbD 7 := rfl
@[simp] theorem Cpu.unpackP_nmiPending (p : Byte) (c : Cpu) : (c.unpackP p).nmiPending = c.nmiPending := rfl
@[simp] theorem Cpu.unpackP_jammed (p : Byte) (c : Cpu) : (c.unpackP p).jammed = c.jammed := rfl

@[simp] theorem Cpu.loadA_a (v : Byte) (c : Cpu) : (c.loadA v).a = v := rfl
@[simp] theorem Cpu.loadA_x (v : Byte) (c : Cpu) : (c.loadA v).x = c.x := rfl
@[simp] theorem Cpu.loadA_y (v : Byte) (c : Cpu) : (c.loadA v).y = c.y := rfl
@[simp] theorem Cpu.loadA_s (v : Byte) (c : Cpu) : (c.loadA v).s = c.s := rfl
@[simp] theorem Cpu.loadA_pc (v : Byte) (c : Cpu) : (c.loadA v).pc = c.pc := rfl
@[simp] theorem Cpu.loadA_c (v : Byte) (c : Cpu) : (c.loadA v).c = c.c := rfl
@[simp] theorem Cpu.loadA_z (v : Byte) (c : Cpu) : (c.loadA v).z = decide (v = 0#8) := rfl
@[simp] theorem Cpu.loadA_i (v : Byte) (c : Cpu) : (c.loadA v).i = c.i := rfl
@[simp] theorem Cpu.loadA_d (v : Byte) (c : Cpu) : (c.loadA v).d = c.d := rfl
@[simp] theorem Cpu.loadA_v (v : Byte) (c : Cpu) : (c.loadA v).v = c.v := rfl
@[simp] theorem Cpu.loadA_n (v : Byte) (c : Cpu) : (c.loadA v).n = v.getLsbD 7 := rfl
@[simp] theorem Cpu.loadA_nmiPending (v : Byte) (c : Cpu) : (c.loadA v).nmiPending = c.nmiPending := rfl
@[simp] theorem Cpu.loadA_jammed (v : Byte) (c : Cpu) : (c.loadA v).jammed = c.jammed := rfl

@[simp] theorem Cpu.loadX_a (v : Byte) (c : Cpu) : (c.loadX v).a = c.a := rfl
@[simp] theorem Cpu.loadX_x (v : Byte) (c : Cpu) : (c.loadX v).x = v := rfl
@[simp] theorem Cpu.loadX_y (v : Byte) (c : Cpu) : (c.loadX v).y = c.y := rfl
@[simp] theorem Cpu.loadX_s (v : Byte) (c : Cpu) : (c.loadX v).s = c.s := rfl
@[simp] theorem Cpu.loadX_pc (v : Byte) (c : Cpu) : (c.loadX v).pc = c.pc := rfl
@[simp] theorem Cpu.loadX_c (v : Byte) (c : Cpu) : (c.loadX v).c = c.c := rfl
@[simp] theorem Cpu.loadX_z (v : Byte) (c : Cpu) : (c.loadX v).z = decide (v = 0#8) := rfl
@[simp] theorem Cpu.loadX_i (v : Byte) (c : Cpu) : (c.loadX v).i = c.i := rfl
@[simp] theorem Cpu.loadX_d (v : Byte) (c : Cpu) : (c.loadX v).d = c.d := rfl
@[simp] theorem Cpu.loadX_v (v : Byte) (c : Cpu) : (c.loadX v).v = c.v := rfl
@[simp] theorem Cpu.loadX_n (v : Byte) (c : Cpu) : (c.loadX v).n = v.getLsbD 7 := rfl
@[simp] theorem Cpu.loadX_nmiPending (v : Byte) (c : Cpu) : (c.loadX v).nmiPending = c.nmiPending := rfl
@[simp] theorem Cpu.loadX_jammed (v : Byte) (c : Cpu) : (c.loadX v).jammed = c.jammed := rfl

@[simp] theorem Cpu.loadY_a (v : Byte) (c : Cpu) : (c.loadY v).a = c.a := rfl
@[simp] theorem Cpu.loadY_x (v : Byte) (c : Cpu) : (c.loadY v).x = c.x := rfl
@[simp] theorem Cpu.loadY_y (v : Byte) (c : Cpu) : (c.loadY v).y = v := rfl
@[simp] theorem Cpu.loadY_s (v : Byte) (c : Cpu) : (c.loadY v).s = c.s := rfl
@[simp] theorem Cpu.loadY_pc (v : Byte) (c : Cpu) : (c.loadY v).pc = c.pc := rfl
@[simp] theorem Cpu.loadY_c (v : Byte) (c : Cpu) : (c.loadY v).c = c.c := rfl
@[simp] theorem Cpu.loadY_z (v : Byte) (c : Cpu) : (c.loadY v).z = decide (v = 0#8) := rfl
@[simp] theorem Cpu.loadY_i (v : Byte) (c : Cpu) : (c.loadY v).i = c.i := rfl
@[simp] theorem Cpu.loadY_d (v : Byte) (c : Cpu) : (c.loadY v).d = c.d := rfl
@[simp] theorem Cpu.loadY_v (v : Byte) (c : Cpu) : (c.loadY v).v = c.v := rfl
@[simp] theorem Cpu.loadY_n (v : Byte) (c : Cpu) : (c.loadY v).n = v.getLsbD 7 := rfl
@[simp] theorem Cpu.loadY_nmiPending (v : Byte) (c : Cpu) : (c.loadY v).nmiPending = c.nmiPending := rfl
@[simp] theorem Cpu.loadY_jammed (v : Byte) (c : Cpu) : (c.loadY v).jammed = c.jammed := rfl

@[simp] theorem Cpu.lax_a (v : Byte) (c : Cpu) : (c.lax v).a = v := rfl
@[simp] theorem Cpu.lax_x (v : Byte) (c : Cpu) : (c.lax v).x = v := rfl
@[simp] theorem Cpu.lax_y (v : Byte) (c : Cpu) : (c.lax v).y = c.y := rfl
@[simp] theorem Cpu.lax_s (v : Byte) (c : Cpu) : (c.lax v).s = c.s := rfl
@[simp] theorem Cpu.lax_pc (v : Byte) (c : Cpu) : (c.lax v).pc = c.pc := rfl
@[simp] theorem Cpu.lax_c (v : Byte) (c : Cpu) : (c.lax v).c = c.c := rfl
@[simp] theorem Cpu.lax_z (v : Byte) (c : Cpu) : (c.lax v).z = decide (v = 0#8) := rfl
@[simp] theorem Cpu.lax_i (v : Byte) (c : Cpu) : (c.lax v).i = c.i := rfl
@[simp] theorem Cpu.lax_d (v : Byte) (c : Cpu) : (c.lax v).d = c.d := rfl
@[simp] theorem Cpu.lax_v (v : Byte) (c : Cpu) : (c.lax v).v = c.v := rfl
@[simp] theorem Cpu.lax_n (v : Byte) (c : Cpu) : (c.lax v).n = v.getLsbD 7 := rfl
@[simp] theorem Cpu.lax_nmiPending (v : Byte) (c : Cpu) : (c.lax v).nmiPending = c.nmiPending := rfl
@[simp] theorem Cpu.lax_jammed (v : Byte) (c : Cpu) : (c.lax v).jammed = c.jammed := rfl

@[simp] theorem Cpu.adcCore_a (m : Byte) (c : Cpu) : (c.adcCore m).a = BitVec.ofNat 8 (c.adcSum m) := rfl
@[simp] theorem Cpu.adcCore_x (m : Byte) (c : Cpu) : (c.adcCore m).x = c.x := rfl
@[simp] theorem Cpu.adcCore_y (m : Byte) (c : Cpu) : (c.adcCore m).y = c.y := rfl
@[simp] theorem Cpu.adcCore_s (m : Byte) (c : Cpu) : (c.adcCore m).s = c.s := rfl
@[simp] theorem Cpu.adcCore_pc (m : Byte) (c : Cpu) : (c.adcCore m).pc = c.pc := rfl
@[simp] theorem Cpu.adcCore_c (m : Byte) (c : Cpu) : (c.adcCore m).c = decide (0xFF < c.adcSum m) := rfl
@[simp] theorem Cpu.adcCore_z (m : Byte) (c : Cpu) : (c.adcCore m).z = decide (BitVec.ofNat 8 (c.adcSum m) = 0#8) := rfl
@[simp] theorem Cpu.adcCore_i (m : Byte) (c : Cpu) : (c.adcCore m).i = c.i := rfl
@[simp] theorem Cpu.adcCore_d (m : Byte) (c : Cpu) : (c.adcCore m).d = c.d := rfl
@[simp] theorem Cpu.adcCore_v (m : Byte) (c : Cpu) : (c.adcCore m).v = (~~~(c.a ^^^ m) &&& (c.a ^^^ BitVec.ofNat 8 (c.adcSum m))).getLsbD 7 := rfl
@[simp] theorem Cpu.adcCore_n (m : Byte) (c : Cpu) : (c.adcCore m).n = (BitVec.ofNat 8 (c.adcSum m)).getLsbD 7 := rfl
@[simp] theorem Cpu.adcCore_nmiPending (m : Byte) (c : Cpu) : (c.adcCore m).nmiPending = c.nmiPending := rfl
@[simp] theorem Cpu.adcCore_jammed (m : Byte) (c : Cpu) : (c.adcCore m).jammed = c.jammed := rfl

@[simp] theorem Cpu.compareWith_a (r m : Byte) (c : Cpu) : (c.compareWith r m).a = c.a := rfl
@[simp] theorem Cpu.compareWith_x (r m : Byte) (c : Cpu) : (c.compareWith r m).x = c.x := rfl
@[simp] theorem Cpu.compareWith_y (r m : Byte) (c : Cpu) : (c.compareWith r m).y = c.y := rfl
@[simp] theorem Cpu.compareWith_s (r m : Byte) (c : Cpu) : (c.compareWith r m).s = c.s := rfl
@[simp] theorem Cpu.compareWith_pc (r m : Byte) (c : Cpu) : (c.compareWith r m).pc = c.pc := rfl
@[simp] theorem Cpu.compareWith_c (r m : Byte) (c : Cpu) : (c.compareWith r m).c = decide (m.toNat ≤ r.toNat) := rfl
@[simp] theorem Cpu.compareWith_z (r m : Byte) (c : Cpu) : (c.compareWith r m).z = decide (r = m) := rfl
@[simp] theorem Cpu.compareWith_i (r m : Byte) (c : Cpu) : (c.compareWith r m).i = c.i := rfl
@[simp] theorem Cpu.compareWith_d (r m : Byte) (c : Cpu) : (c.compareWith r m).d = c.d := rfl
@[simp] theorem Cpu.compareWith_v (r m : Byte) (c : Cpu) : (c.compareWith r m).v = c.v := rfl
@[simp] theorem Cpu.compareWith_n (r m : Byte) (c : Cpu) : (c.compareWith r m).n = (r - m).getLsbD 7 := rfl
@[simp] theorem Cpu.compareWith_nmiPending (r m : Byte) (c : Cpu) : (c.compareWith r m).nmiPending = c.nmiPending := rfl
@[simp] theorem Cpu.compareWith_jammed (r m : Byte) (c : Cpu) : (c.compareWith r m).jammed = c.jammed := rfl

end Sys2Proof.Machine
end

