-- ==== Sys2Proof/Laws/Bus.lean ====
section
/-! SUPPORT. What one access to the Bus can do, said once: `memRead` by region, `ReadStep` for any number of reads, and
`BusStep` for any number of reads and writes. -/
namespace Sys2Proof.Machine

open Sys2Proof.Config Sys2Proof.Safety

/-! ### Reads by region -/

theorem memRead_ram {a : Addr} (h : a.toNat ≤ 0x1FFF) (s : State) : memRead a s = (s.ram.read (ramIndex a), s) :=
  if_pos h

theorem memRead_ppu {a : Addr} (h : 0x2000 ≤ a.toNat) (h' : a.toNat ≤ 0x3FFF) (s : State) :
    memRead a s = ppuRegRead (ppuRegister a) s := by
  rw [memRead, if_neg (by omega), if_pos h']

theorem memRead_cartridge {a : Addr} (h : 0x4020 ≤ a.toNat) (s : State) :
    memRead a s = (mapperCpuRead s.cfg.unmappedRead s.mapper a, s) := by
  rw [memRead, if_neg (by omega), if_neg (by omega), if_neg (by omega), if_neg (by omega), if_neg (by omega),
    if_neg (by omega)]

theorem ppuRegister_toNat (a : Addr) : (ppuRegister a).toNat = a.toNat % 8 := by
  simp [ppuRegister]

/-- A read of a plain address changes nothing. -/
theorem memRead_plain {a : Addr} (h : PlainAddr a) (s : State) : (memRead a s).2 = s := by
  unfold PlainAddr at h
  unfold memRead
  repeat' split
  all_goals first | rfl | omega

/-- A read of an address that R75 does not list changes nothing. -/
theorem memRead_quiet {a : Addr} (h : QuietAddr a) (s : State) : (memRead a s).2 = s := by
  obtain ⟨h1, h2, h3⟩ := h
  unfold memRead
  split
  · rfl
  split
  · have hr := ppuRegister_toNat a
    unfold ppuRegRead
    split
    · omega
    · rfl
    · omega
    · rfl
  repeat' split
  all_goals first | rfl | omega

/-- The byte a plain address reads depends on work RAM, the Mapper and the parameters alone. -/
theorem memRead_plain_congr {a : Addr} (h : PlainAddr a) {s t : State} (hr : t.ram = s.ram) (hm : t.mapper = s.mapper)
    (hc : t.cfg = s.cfg) : (memRead a t).1 = (memRead a s).1 := by
  unfold PlainAddr at h
  unfold memRead
  split
  · rw [hr]
  split
  · omega
  repeat' split
  all_goals first | rfl | omega | simp only [hm, hc]

/-! ### What reads change -/

/-- What any number of Bus reads may change: the fields R75 lists, and no other. -/
def ReadStep (s t : State) : Prop :=
  ∃ (vblank w : Bool) (buffer : Byte) (v : BitVec 15) (frameIrq : Bool) (shift : Byte),
    t = { s with
      ppu := { s.ppu with vblank := vblank, w := w, readBuffer := buffer, v := v }
      apu := { s.apu with frameIrq := frameIrq }
      console := { s.console with padShift := shift } }

theorem ReadStep.refl (s : State) : ReadStep s s := ⟨_, _, _, _, _, _, rfl⟩

theorem ReadStep.trans {s t u : State} (h : ReadStep s t) (h' : ReadStep t u) : ReadStep s u := by
  obtain ⟨_, _, _, _, _, _, rfl⟩ := h
  obtain ⟨vb, w, b, v, f, p, rfl⟩ := h'
  exact ⟨vb, w, b, v, f, p, rfl⟩

theorem ppuRegRead_readStep (r : BitVec 3) (s : State) : ReadStep s (ppuRegRead r s).2 := by
  unfold ppuRegRead
  split
  · exact ⟨_, _, _, _, _, _, rfl⟩
  · exact ReadStep.refl s
  · exact ⟨_, _, _, _, _, _, rfl⟩
  · exact ReadStep.refl s

theorem memRead_readStep (a : Addr) (s : State) : ReadStep s (memRead a s).2 := by
  unfold memRead
  split
  · exact ReadStep.refl s
  split
  · exact ppuRegRead_readStep _ s
  split
  · exact ⟨_, _, _, _, _, _, rfl⟩
  split
  · dsimp only [Console.padRead]
    split <;> exact ⟨_, _, _, _, _, _, rfl⟩
  repeat' split
  all_goals exact ReadStep.refl s

/-! ### What accesses change -/

/-- What is left of a Mapper when its CHR RAM is set aside: no Bus access changes it (R33). The last component is the CHR
ROM of a cartridge that has one. -/
def mapperFixed : Option Mapper → Option (Nat × Memory × Nat × Mirroring × Option Memory)
  | none => none
  | some (.fixed m) =>
    some (m.prgBanks, m.prg, m.chrBanks, m.mirroring, if m.chrBanks = 0 then none else some m.chr)

/-- Two Mappers with the same fixed part differ in CHR RAM at most. -/
theorem mapperFixed_cases {m m' : Option Mapper} (h : mapperFixed m' = mapperFixed m) :
    (m = none → m' = none) ∧
      ∀ k, m = some (.fixed k) → ∃ chr, m' = some (.fixed { k with chr := chr }) ∧ (k.chrBanks ≠ 0 → chr = k.chr) := by
  match m, m' with
  | none, none => exact ⟨fun _ => rfl, nofun⟩
  | none, some (.fixed _) => nomatch h
  | some (.fixed _), none => nomatch h
  | some (.fixed k), some (.fixed k') =>
    refine ⟨nofun, ?_⟩
    rintro _ ⟨⟩
    obtain ⟨b, p, c, chr, mir⟩ := k'
    simp only [mapperFixed, Option.some.injEq, Prod.mk.injEq] at h
    obtain ⟨rfl, rfl, rfl, rfl, hc⟩ := h
    exact ⟨chr, rfl, fun hn => by simpa [hn] using hc⟩

/-- What any number of Bus reads and writes leaves alone, and the invariant they keep. -/
structure BusStep (s t : State) : Prop where
  cfg : t.cfg = s.cfg
  cpu : t.cpu = { s.cpu with nmiPending := t.cpu.nmiPending }
  mapper : mapperFixed t.mapper = mapperFixed s.mapper
  cycles : t.console.cycles = s.console.cycles
  frameTarget3 : t.console.frameTarget3 = s.console.frameTarget3
  pendingStall : t.console.pendingStall = s.console.pendingStall
  loaded : t.console.loaded = s.console.loaded
  pad : t.console.pad = s.console.pad
  dot : t.ppu.dot = s.ppu.dot
  scanline : t.ppu.scanline = s.ppu.scanline
  frame : t.ppu.frame = s.ppu.frame
  sampleAcc : t.apu.sampleAcc = s.apu.sampleAcc
  queue : t.apu.queue = s.apu.queue
  odd : t.apu.odd = s.apu.odd
  back : t.ppu.back = s.ppu.back
  front : t.ppu.front = s.ppu.front
  consoleReturn : t.consoleReturn = s.consoleReturn
  cpuReturn : t.cpuReturn = s.cpuReturn
  wf : Wf s → Wf t

theorem BusStep.refl (s : State) : BusStep s s := by constructor <;> first | rfl | exact id

theorem BusStep.trans {s t u : State} (h : BusStep s t) (h' : BusStep t u) : BusStep s u where
  cfg := h'.cfg.trans h.cfg
  cpu := by rw [h'.cpu, h.cpu]
  mapper := h'.mapper.trans h.mapper
  cycles := h'.cycles.trans h.cycles
  frameTarget3 := h'.frameTarget3.trans h.frameTarget3
  pendingStall := h'.pendingStall.trans h.pendingStall
  loaded := h'.loaded.trans h.loaded
  pad := h'.pad.trans h.pad
  dot := h'.dot.trans h.dot
  scanline := h'.scanline.trans h.scanline
  frame := h'.frame.trans h.frame
  sampleAcc := h'.sampleAcc.trans h.sampleAcc
  queue := h'.queue.trans h.queue
  odd := h'.odd.trans h.odd
  back := h'.back.trans h.back
  front := h'.front.trans h.front
  consoleReturn := h'.consoleReturn.trans h.consoleReturn
  cpuReturn := h'.cpuReturn.trans h.cpuReturn
  wf := h'.wf ∘ h.wf

theorem ReadStep.busStep {s t : State} (h : ReadStep s t) : BusStep s t := by
  obtain ⟨_, _, _, _, _, _, rfl⟩ := h
  constructor <;> first | rfl | skip
  intro ⟨hr, hm, hp, hu⟩
  exact ⟨hr, hm, ⟨hp.vram, hp.palette, hp.oam, hp.back, hp.front, hp.dot, hp.scanline, hp.sprites⟩,
    ⟨hu.dmc, hu.lfsr, hu.sequencer⟩⟩

theorem memRead_busStep (a : Addr) (s : State) : BusStep s (memRead a s).2 := (memRead_readStep a s).busStep

/-- A change of the PPU alone that keeps its counters and framebuffers. -/
theorem BusStep.ofPpu (s : State) (p : Ppu) (hd : p.dot = s.ppu.dot) (hs : p.scanline = s.ppu.scanline)
    (hf : p.frame = s.ppu.frame) (hb : p.back = s.ppu.back) (hfr : p.front = s.ppu.front)
    (hw : PpuWf s.ppu → PpuWf p) : BusStep s { s with ppu := p } := by
  constructor <;> first | rfl | assumption | skip
  exact fun h => ⟨h.ram, h.mapper, hw h.ppu, h.apu⟩

theorem ntIndex_lt (mirroring : Mirroring) (a : BitVec 14) : ntIndex mirroring a < 0x800 := by
  unfold ntIndex
  cases mirroring <;> simp only <;> omega

theorem palIndex_lt (a : BitVec 14) : palIndex a < 32 := by
  unfold palIndex
  simp only
  split <;> omega

theorem mapperPpuWrite_fixed (m : Option Mapper) (a : Nat) (v : Byte) :
    mapperFixed (mapperPpuWrite m a v) = mapperFixed m := by
  unfold mapperPpuWrite
  split
  · rfl
  · split
    · rename_i hz
      simp only [mapperFixed, hz, if_true]
    · rfl

theorem mapperPpuWrite_wf {m : Option Mapper} (h : MapperWf m) {a : Nat} (ha : a ≤ 0x1FFF) (v : Byte) :
    MapperWf (mapperPpuWrite m a v) := by
  unfold mapperPpuWrite
  split
  · trivial
  · obtain ⟨h1, h2, h3⟩ := h
    split
    · rename_i hz
      refine ⟨h1, h2, ?_⟩
      simp only [chrSize, hz, if_true] at h3 ⊢
      exact Memory.wf_write h3 (by simp only [chrBankBytes]; omega) v
    · exact ⟨h1, h2, h3⟩

theorem ppuWrite_busStep (a : BitVec 14) (v : Byte) (s : State) : BusStep s (ppuWrite a v s) := by
  unfold ppuWrite
  split
  · rename_i ha
    constructor <;> first | rfl | skip
    · exact mapperPpuWrite_fixed _ _ _
    · exact fun h => ⟨h.ram, mapperPpuWrite_wf h.mapper ha v, h.ppu, h.apu⟩
  split
  · exact BusStep.ofPpu s _ rfl rfl rfl rfl rfl fun h =>
      ⟨Memory.wf_write h.vram (ntIndex_lt _ _) v, h.palette, h.oam, h.back, h.front, h.dot, h.scanline, h.sprites⟩
  · exact BusStep.ofPpu s _ rfl rfl rfl rfl rfl fun h =>
      ⟨h.vram, Store.wf_write _ h.palette (palIndex_lt _) _, h.oam, h.back, h.front, h.dot, h.scanline, h.sprites⟩

theorem PpuWf.oamDataWrite {p : Ppu} (h : PpuWf p) (v : Byte) : PpuWf (p.oamDataWrite v) :=
  ⟨h.vram, h.palette, Memory.wf_write h.oam p.oamAddr.isLt v, h.back, h.front, h.dot, h.scanline, h.sprites⟩

theorem ppuRegWrite_busStep (r : BitVec 3) (v : Byte) (s : State) : BusStep s (ppuRegWrite r v s) := by
  unfold ppuRegWrite
  split
  · unfold ppuCtrlWrite
    constructor <;> first | rfl | skip
    exact fun ⟨hr, hm, h, hu⟩ =>
      ⟨hr, hm, ⟨h.vram, h.palette, h.oam, h.back, h.front, h.dot, h.scanline, h.sprites⟩, hu⟩
  · exact BusStep.ofPpu s _ rfl rfl rfl rfl rfl fun h =>
      ⟨h.vram, h.palette, h.oam, h.back, h.front, h.dot, h.scanline, h.sprites⟩
  · exact BusStep.refl s
  · exact BusStep.ofPpu s _ rfl rfl rfl rfl rfl fun h =>
      ⟨h.vram, h.palette, h.oam, h.back, h.front, h.dot, h.scanline, h.sprites⟩
  · exact BusStep.ofPpu s _ rfl rfl rfl rfl rfl fun h => PpuWf.oamDataWrite h v
  · unfold Ppu.scrollWrite
    split <;> exact BusStep.ofPpu s _ rfl rfl rfl rfl rfl fun h =>
      ⟨h.vram, h.palette, h.oam, h.back, h.front, h.dot, h.scanline, h.sprites⟩
  · unfold Ppu.addrWrite
    split <;> exact BusStep.ofPpu s _ rfl rfl rfl rfl rfl fun h =>
      ⟨h.vram, h.palette, h.oam, h.back, h.front, h.dot, h.scanline, h.sprites⟩
  · unfold ppuDataWrite
    exact (ppuWrite_busStep _ v s).trans (BusStep.ofPpu _ _ rfl rfl rfl rfl rfl fun h =>
      ⟨h.vram, h.palette, h.oam, h.back, h.front, h.dot, h.scanline, h.sprites⟩)

theorem oamDmaFrom_busStep (page : Byte) (n i : Nat) (s : State) : BusStep s (oamDmaFrom page n i s) := by
  induction n generalizing i s with
  | zero => exact BusStep.refl s
  | succ n ih =>
    refine BusStep.trans ?_ (ih _ _)
    exact (memRead_busStep _ s).trans
      (BusStep.ofPpu _ ((memRead _ s).2.ppu.oamDataWrite _) rfl rfl rfl rfl rfl fun h => PpuWf.oamDataWrite h _)

theorem oamDma_busStep (page : Byte) (s : State) : BusStep s (oamDma page s) := by
  refine (oamDmaFrom_busStep page 256 0 s).trans ?_
  constructor <;> first | rfl | exact fun h => ⟨h.ram, h.mapper, h.ppu, h.apu⟩

/-! ### The APU's registers -/

/-- A change of the APU alone that keeps its sample clock, its queue and its phase. -/
theorem BusStep.ofApu (s : State) (u : Apu) (ha : u.sampleAcc = s.apu.sampleAcc) (hq : u.queue = s.apu.queue)
    (ho : u.odd = s.apu.odd) (hw : ApuWf s.apu → ApuWf u) : BusStep s { s with apu := u } := by
  constructor <;> first | rfl | assumption | skip
  exact fun h => ⟨h.ram, h.mapper, h.ppu, hw h.apu⟩

theorem quarterFrame_wf {u : Apu} (h : ApuWf u) : ApuWf u.quarterFrame := ⟨h.dmc, h.lfsr, h.sequencer⟩

theorem halfFrame_wf {u : Apu} (h : ApuWf u) : ApuWf u.halfFrame := ⟨h.dmc, h.lfsr, h.sequencer⟩

theorem sampleAddr_high (v : Byte) : 0xC000 ≤ (0xC000#16 ||| (v.setWidth 16 <<< 6)).toNat := by
  rw [BitVec.toNat_or]
  exact Nat.left_le_or

theorem sampleLen_ne_zero (v : Byte) : (v.setWidth 12 <<< 4) ||| 1#12 ≠ 0#12 := by
  intro h
  have h' := congrArg (fun x => x.getLsbD 0) h
  simp at h'

theorem apuRegWrite_wf {u : Apu} (h : ApuWf u) (offset : Nat) (v : Byte) : ApuWf (apuRegWrite offset v u) := by
  obtain ⟨⟨hb, hsa, hsl, hr⟩, hl, hs⟩ := h
  unfold apuRegWrite
  split
  case h_17 => exact ⟨⟨hb, sampleAddr_high v, hsl, hr⟩, hl, hs⟩
  case h_18 => exact ⟨⟨hb, hsa, sampleLen_ne_zero v, hr⟩, hl, hs⟩
  case h_19 =>
    refine ⟨?_, hl, hs⟩
    show DmcWf (u.dmc.writeEnable _)
    unfold Dmc.writeEnable
    split
    · exact ⟨hb, hsa, hsl, fun h => absurd rfl h⟩
    split
    · exact ⟨hb, hsa, hsl, fun _ => Nat.le_trans (by omega) hsa⟩
    · exact ⟨hb, hsa, hsl, hr⟩
  case h_20 =>
    have h0 : ∀ m i f, ApuWf { u with seqMode := m, irqInhibit := i, frameIrq := f, seqCycle := 0 } :=
      fun m i f => ⟨⟨hb, hsa, hsl, hr⟩, hl, by dsimp only; split <;> omega⟩
    unfold Apu.writeSequencer
    dsimp only
    split
    · exact halfFrame_wf (quarterFrame_wf (h0 _ _ _))
    · exact h0 _ _ _
  all_goals exact ⟨⟨hb, hsa, hsl, hr⟩, hl, hs⟩

theorem apuRegWrite_clock (offset : Nat) (v : Byte) (u : Apu) :
    (apuRegWrite offset v u).sampleAcc = u.sampleAcc ∧ (apuRegWrite offset v u).queue = u.queue ∧
      (apuRegWrite offset v u).odd = u.odd := by
  unfold apuRegWrite
  split
  case h_20 =>
    unfold Apu.writeSequencer
    dsimp only
    split <;> exact ⟨rfl, rfl, rfl⟩
  all_goals exact ⟨rfl, rfl, rfl⟩

/-! ### One write -/

theorem mapperCpuWrite_eq (m : Option Mapper) (a : Addr) (v : Byte) : mapperCpuWrite m a v = m := by
  unfold mapperCpuWrite
  split <;> rfl

/-- A write to work RAM changes the one cell behind the address. -/
theorem memWrite_ram {a : Addr} (h : a.toNat ≤ 0x1FFF) (v : Byte) (s : State) :
    memWrite a v s = { s with ram := s.ram.write (ramIndex a) v } := if_pos h

/-- A write to a plain address above work RAM changes nothing. -/
theorem memWrite_high {a : Addr} (h : 0x4018 ≤ a.toNat) (v : Byte) (s : State) : memWrite a v s = s := by
  unfold memWrite
  rw [if_neg (by omega), if_neg (by omega), if_neg (by omega), if_neg (by omega), if_neg (by omega)]
  split
  · rfl
  · rw [mapperCpuWrite_eq]

/-- A write to an APU register reaches the APU alone. -/
theorem memWrite_apu {a : Addr} (h : 0x4000 ≤ a.toNat) (h' : a.toNat ≤ 0x4017) (hd : a.toNat ≠ 0x4014)
    (hp : a.toNat ≠ 0x4016) (v : Byte) (s : State) :
    memWrite a v s = { s with apu := apuRegWrite (a.toNat - 0x4000) v s.apu } := by
  unfold memWrite
  rw [if_neg (by omega), if_neg (by omega), if_neg hd, if_neg hp, if_pos (by omega)]

theorem ramIndex_lt (a : Addr) : ramIndex a < 0x800 := Nat.mod_lt _ (by omega)

theorem memWrite_busStep (a : Addr) (v : Byte) (s : State) : BusStep s (memWrite a v s) := by
  unfold memWrite
  split
  · constructor <;> first | rfl | skip
    exact fun h => ⟨Memory.wf_write h.ram (ramIndex_lt a) v, h.mapper, h.ppu, h.apu⟩
  split
  · exact ppuRegWrite_busStep _ v s
  split
  · exact oamDma_busStep v s
  split
  · constructor <;> first | rfl | exact fun h => ⟨h.ram, h.mapper, h.ppu, h.apu⟩
  split
  · obtain ⟨h1, h2, h3⟩ := apuRegWrite_clock (a.toNat - 0x4000) v s.apu
    exact BusStep.ofApu s _ h1 h2 h3 fun h => apuRegWrite_wf h _ v
  split
  · exact BusStep.refl s
  · rw [mapperCpuWrite_eq]
    exact BusStep.refl s

/-! ### Accesses and the registers -/

/-- The registers play no part in a read. -/
theorem memRead_withCpu (a : Addr) (c : Cpu) (s : State) :
    memRead a { s with cpu := c } = ((memRead a s).1, { (memRead a s).2 with cpu := c }) := by
  unfold memRead
  split
  · rfl
  split
  · unfold ppuRegRead
    split <;> rfl
  repeat' split
  all_goals rfl

theorem ppuWrite_withCpu (a : BitVec 14) (v : Byte) (c : Cpu) (s : State) :
    ppuWrite a v { s with cpu := c } = { ppuWrite a v s with cpu := c } := by
  unfold ppuWrite
  repeat' split
  all_goals rfl

theorem oamDmaFrom_withCpu (page : Byte) (n i : Nat) (c : Cpu) (s : State) :
    oamDmaFrom page n i { s with cpu := c } = { oamDmaFrom page n i s with cpu := c } := by
  induction n generalizing i s with
  | zero => rfl
  | succ n ih =>
    simp only [oamDmaFrom, memRead_withCpu]
    let r := memRead (word page (BitVec.ofNat 8 i)) s
    exact ih (i + 1) { r.2 with ppu := r.2.ppu.oamDataWrite r.1 }

/-- The registers play no part in a write; only the NMI latch may change (R402). -/
theorem memWrite_withCpu (a : Addr) (v : Byte) (c : Cpu) (s : State) (h : c.nmiPending = s.cpu.nmiPending) :
    memWrite a v { s with cpu := c } =
      { memWrite a v s with cpu := { c with nmiPending := (memWrite a v s).cpu.nmiPending } } := by
  have hc : { c with nmiPending := s.cpu.nmiPending } = c := by rw [← h]
  unfold memWrite
  split
  · simp only [hc]
  split
  · unfold ppuRegWrite
    split
    · simp only [ppuCtrlWrite, h]
    · simp only [hc]
    · simp only [hc]
    · simp only [hc]
    · simp only [hc]
    · simp only [hc]
    · simp only [hc]
    · have hw : (ppuWrite s.ppu.dataAddr v s).cpu = s.cpu := by
        unfold ppuWrite
        repeat' split
        all_goals rfl
      simp only [ppuDataWrite, ppuWrite_withCpu, hw, hc]
  split
  · have hw : (oamDmaFrom v 256 0 s).cpu.nmiPending = s.cpu.nmiPending := by
      have : ∀ n i (s : State), (oamDmaFrom v n i s).cpu = s.cpu := by
        intro n
        induction n with
        | zero => intros; rfl
        | succ n ih =>
          intro i s
          rw [oamDmaFrom, ih]
          show (memRead _ s).2.cpu = s.cpu
          obtain ⟨_, _, _, _, _, _, he⟩ := memRead_readStep (word v (BitVec.ofNat 8 i)) s
          rw [he]
      rw [this]
    simp only [oamDma, oamDmaFrom_withCpu, hw, hc]
  repeat' split
  all_goals simp only [hc]

/-! ### What a write leaves of memory -/

/-- The byte an address above the registers reads depends on PRG and the parameters alone. -/
theorem memRead_high_fixed {a : Addr} (h : 0x4018 ≤ a.toNat) {s t : State}
    (hm : mapperFixed t.mapper = mapperFixed s.mapper) (hc : t.cfg = s.cfg) : (memRead a t).1 = (memRead a s).1 := by
  by_cases h1 : 0x4020 ≤ a.toNat
  · rw [memRead_cartridge h1, memRead_cartridge h1, hc]
    show mapperCpuRead _ t.mapper a = mapperCpuRead _ s.mapper a
    revert hm
    unfold mapperFixed mapperCpuRead
    cases t.mapper with
    | none => cases s.mapper with
      | none => simp
      | some m => cases m; simp
    | some m => cases m with
      | fixed m => cases s.mapper with
        | none => simp
        | some m' => cases m' with
          | fixed m' =>
            simp only [Option.some.injEq, Prod.mk.injEq, FixedMapper.prgLen]
            rintro ⟨hb, hp, _, _⟩
            rw [hb, hp]
  · unfold memRead
    rw [if_neg (by omega), if_neg (by omega), if_neg (by omega), if_neg (by omega), if_neg (by omega),
      if_pos (by omega), if_neg (by omega), if_neg (by omega), if_neg (by omega), if_neg (by omega),
      if_neg (by omega), if_pos (by omega), hc]

/-- The byte a plain address reads depends on work RAM, PRG and the parameters alone. -/
theorem memRead_plain_fixed {a : Addr} (h : PlainAddr a) {s t : State} (hr : t.ram = s.ram)
    (hm : mapperFixed t.mapper = mapperFixed s.mapper) (hc : t.cfg = s.cfg) : (memRead a t).1 = (memRead a s).1 := by
  unfold PlainAddr at h
  by_cases h0 : a.toNat ≤ 0x1FFF
  · rw [memRead_ram h0, memRead_ram h0, hr]
  · exact memRead_high_fixed (by omega) hm hc

/-- A write outside work RAM keeps work RAM. -/
theorem memWrite_ram_kept {a : Addr} (h : 0x2000 ≤ a.toNat) (v : Byte) (s : State) : (memWrite a v s).ram = s.ram := by
  unfold memWrite
  rw [if_neg (by omega)]
  split
  · unfold ppuRegWrite
    split <;> try rfl
    unfold ppuDataWrite ppuWrite
    repeat' split
    all_goals rfl
  split
  · have : ∀ n i (s : State), (oamDmaFrom v n i s).ram = s.ram := by
      intro n
      induction n with
      | zero => intros; rfl
      | succ n ih =>
        intro i s
        rw [oamDmaFrom, ih]
        show (memRead _ s).2.ram = s.ram
        obtain ⟨_, _, _, _, _, _, he⟩ := memRead_readStep (word v (BitVec.ofNat 8 i)) s
        rw [he]
    exact this 256 0 s
  repeat' split
  all_goals rfl

/-- A write keeps every byte of memory but the one it stores to. -/
theorem memWrite_memoryKept {s : State} (hwf : s.ram.wf 0x800 = true) (a : Addr) (v : Byte) :
    MemoryKept (SameCell a) s (memWrite a v s) := by
  intro b hb hn
  have hbs := memWrite_busStep a v s
  by_cases h0 : b.toNat < 0x2000
  · by_cases h1 : a.toNat < 0x2000
    · rw [memRead_ram (by omega), memRead_ram (by omega), memWrite_ram (by omega)]
      refine Memory.read_write_other hwf ?_ v
      intro he
      exact hn (.inr ⟨h1, h0, he.symm⟩)
    · rw [memRead_ram (by omega), memRead_ram (by omega), memWrite_ram_kept (by omega)]
  · exact memRead_high_fixed (by unfold PlainAddr at hb; omega) hbs.mapper hbs.cfg

end Sys2Proof.Machine
end

