-- ==== Sys2Proof/Laws/Apu.lean ====
section
/-! SUPPORT. What one cycle of the APU can do: the units keep the APU's invariant, and the DMC reader is a Bus read. -/
namespace Sys2Proof.Machine

open Sys2Proof.Config Sys2Proof.Safety

/-- A 15-bit register shifted right with a bit entering at the top is not zero, when the bit that leaves or a bit that
stays shows in it. -/
theorem shift_ne_zero {r : BitVec 15} (h : r ≠ 0#15) (fb : Bool)
    (hfb : r.getLsbD 0 = true → fb = true ∨ ∃ k, r.getLsbD (k + 1) = true) :
    (r >>> 1) ||| (if fb then 0x4000#15 else 0#15) ≠ 0#15 := by
  intro hz
  have bit : ∀ k, r.getLsbD (k + 1) = false := by
    intro k
    have hk := congrArg (fun x => x.getLsbD k) hz
    simp only [BitVec.getLsbD_or, BitVec.getLsbD_ushiftRight, Nat.add_comm 1 k, Bool.or_eq_false_iff,
      BitVec.getLsbD_zero] at hk
    exact hk.1
  cases h0 : r.getLsbD 0 with
  | true =>
    rcases hfb h0 with hf | ⟨k, hk⟩
    · have h14 := congrArg (fun x => x.getLsbD 14) hz
      simp [hf] at h14
    · rw [bit k] at hk
      cases hk
  | false =>
    apply h
    apply BitVec.eq_of_getLsbD_eq
    intro i _
    cases i with
    | zero => simpa using h0
    | succ i => simpa using bit i

/-- A shift of the noise register never gives zero (R528). -/
theorem noise_shifted_ne_zero {n : Noise} (h : n.lfsr ≠ 0#15) : n.shifted ≠ 0#15 := by
  refine shift_ne_zero h _ fun h0 => ?_
  rw [h0]
  cases n.mode
  · cases h1 : n.lfsr.getLsbD 1
    · exact .inl rfl
    · exact .inr ⟨0, h1⟩
  · cases h6 : n.lfsr.getLsbD 6
    · exact .inl rfl
    · exact .inr ⟨5, h6⟩

theorem dmc_clockTimer_wf {d : Dmc} (h : DmcWf d) : DmcWf d.clockTimer := by
  obtain ⟨⟨h1, h8⟩, hs, hl, hr⟩ := h
  unfold Dmc.clockTimer
  split
  · exact ⟨⟨h1, h8⟩, hs, hl, hr⟩
  · unfold Dmc.clockOutput
    dsimp only
    split
    · unfold Dmc.nextByte
      split <;> exact ⟨⟨Nat.le_add_left 1 7, Nat.le_refl 8⟩, hs, hl, hr⟩
    · rename_i hne
      exact ⟨⟨by dsimp only; omega, by dsimp only; omega⟩, hs, hl, hr⟩

theorem dmc_receive_wf {d : Dmc} (h : DmcWf d) (hr : 0x8000 ≤ d.curAddr.toNat) (b : Byte) : DmcWf (d.receive b) := by
  obtain ⟨hb, hs, hl, _⟩ := h
  have hn : 0x8000 ≤ (if d.curAddr = 0xFFFF#16 then 0x8000#16 else d.curAddr + 1#16).toNat := by
    split
    · decide
    · rename_i hne
      have : d.curAddr.toNat ≠ 0xFFFF := fun h => hne (BitVec.eq_of_toNat_eq h)
      have := d.curAddr.isLt
      rw [BitVec.toNat_add]
      show 0x8000 ≤ (d.curAddr.toNat + 1) % 65536
      omega
  unfold Dmc.receive
  dsimp only
  split
  · split
    · exact ⟨hb, hs, hl, fun _ => Nat.le_trans (by omega) hs⟩
    split
    · exact ⟨hb, hs, hl, fun _ => hn⟩
    · exact ⟨hb, hs, hl, fun _ => hn⟩
  · exact ⟨hb, hs, hl, fun _ => hn⟩

theorem clockTimers_wf {u : Apu} (h : ApuWf u) : ApuWf u.clockTimers := by
  obtain ⟨hd, hl, hs⟩ := h
  unfold Apu.clockTimers
  dsimp only
  split
  · refine ⟨dmc_clockTimer_wf hd, ?_, hs⟩
    show (u.noise.clockTimer).lfsr ≠ 0#15
    unfold Noise.clockTimer
    split
    · exact noise_shifted_ne_zero hl
    · exact hl
  · exact ⟨hd, hl, hs⟩

theorem ApuWf.withSeqCycle {u : Apu} (h : ApuWf u) {c : Nat} (f : Bool) (hc : c < (if u.seqMode then 37282 else 29830)) :
    ApuWf { u with seqCycle := c, frameIrq := f } := ⟨h.dmc, h.lfsr, hc⟩

theorem sequence4_wf {u : Apu} (h : ApuWf { u with seqCycle := 0 }) (hm : u.seqMode = false) (hc : u.seqCycle ≤ 29830) :
    ApuWf u.sequence4 := by
  have hu : u.seqCycle ≠ 29830 → ApuWf u := fun hne =>
    ⟨h.dmc, h.lfsr, by rw [hm]; show u.seqCycle < 29830; omega⟩
  unfold Apu.sequence4
  split <;> rename_i heq
  · exact quarterFrame_wf (hu (by omega))
  · exact halfFrame_wf (quarterFrame_wf (hu (by omega)))
  · exact quarterFrame_wf (hu (by omega))
  · have h' := halfFrame_wf (quarterFrame_wf (hu (by omega)))
    exact ⟨h'.dmc, h'.lfsr, h'.sequencer⟩
  · exact h
  · exact hu heq

theorem sequence5_wf {u : Apu} (h : ApuWf { u with seqCycle := 0 }) (hm : u.seqMode = true) (hc : u.seqCycle ≤ 37282) :
    ApuWf u.sequence5 := by
  have hu : u.seqCycle ≠ 37282 → ApuWf u := fun hne =>
    ⟨h.dmc, h.lfsr, by rw [hm]; show u.seqCycle < 37282; omega⟩
  unfold Apu.sequence5
  split <;> rename_i heq
  · exact quarterFrame_wf (hu (by omega))
  · exact halfFrame_wf (quarterFrame_wf (hu (by omega)))
  · exact quarterFrame_wf (hu (by omega))
  · exact halfFrame_wf (quarterFrame_wf (hu (by omega)))
  · exact h
  · exact hu heq

theorem sequencer_wf {u : Apu} (h : ApuWf u) : ApuWf u.sequencer := by
  have h0 : ApuWf { u with seqCycle := 0 } := ⟨h.dmc, h.lfsr, by dsimp only; split <;> omega⟩
  have hs := h.sequencer
  unfold Apu.sequencer
  dsimp only
  split <;> rename_i hm
  · exact sequence5_wf (u := { u with seqCycle := u.seqCycle + 1 }) h0 hm (by rw [hm] at hs; exact hs)
  · have hm : u.seqMode = false := by simpa using hm
    exact sequence4_wf (u := { u with seqCycle := u.seqCycle + 1 }) h0 hm (by rw [hm] at hs; exact hs)

/-! ### One cycle -/

/-- What an APU cycle leaves alone: it changes the APU, what a read may change, and the carried stall; in a state with the
invariant the DMC reads cartridge space, so that the PPU stays as it is. -/
structure ApuStepKeeps (s t : State) : Prop where
  cfg : t.cfg = s.cfg
  cpu : t.cpu = s.cpu
  ram : t.ram = s.ram
  mapper : t.mapper = s.mapper
  cycles : t.console.cycles = s.console.cycles
  frameTarget3 : t.console.frameTarget3 = s.console.frameTarget3
  loaded : t.console.loaded = s.console.loaded
  dmaStall : t.console.dmaStall = s.console.dmaStall
  dots : t.ppu.dot = s.ppu.dot ∧ t.ppu.scanline = s.ppu.scanline ∧ t.ppu.frame = s.ppu.frame
  cpuReturn : t.cpuReturn = s.cpuReturn
  wf : Wf s → Wf t
  ppu : Wf s → t.ppu = s.ppu

theorem ApuStepKeeps.refl (s : State) : ApuStepKeeps s s := by
  constructor <;> first | rfl | exact ⟨rfl, rfl, rfl⟩ | exact id | exact fun _ => rfl

theorem ApuStepKeeps.trans {s t u : State} (h : ApuStepKeeps s t) (h' : ApuStepKeeps t u) : ApuStepKeeps s u :=
  ⟨h'.cfg.trans h.cfg, h'.cpu.trans h.cpu, h'.ram.trans h.ram, h'.mapper.trans h.mapper, h'.cycles.trans h.cycles,
    h'.frameTarget3.trans h.frameTarget3, h'.loaded.trans h.loaded, h'.dmaStall.trans h.dmaStall,
    ⟨h'.dots.1.trans h.dots.1, h'.dots.2.1.trans h.dots.2.1, h'.dots.2.2.trans h.dots.2.2⟩,
    h'.cpuReturn.trans h.cpuReturn, h'.wf ∘ h.wf, fun hs => (h'.ppu (h.wf hs)).trans (h.ppu hs)⟩

/-- A change of the APU alone. -/
theorem ApuStepKeeps.ofApu (s : State) (u : Apu) (hw : ApuWf s.apu → ApuWf u) : ApuStepKeeps s { s with apu := u } := by
  constructor <;> first | rfl | exact ⟨rfl, rfl, rfl⟩ | exact fun _ => rfl | skip
  exact fun h => ⟨h.ram, h.mapper, h.ppu, hw h.apu⟩

theorem dmcReader_keeps (s : State) : ApuStepKeeps s (dmcReader s) := by
  unfold dmcReader
  split
  · rename_i hw
    have hne : s.apu.dmc.bytesRemaining ≠ 0#12 := by
      simp only [Dmc.wantsByte, Bool.and_eq_true, decide_eq_true_eq] at hw
      exact hw.2
    have hp : Wf s → (memRead s.apu.dmc.curAddr s).2.ppu = s.ppu := fun h =>
      congrArg State.ppu (memRead_plain (.inr (Nat.le_trans (by decide) (h.apu.dmc.running hne))) s)
    obtain ⟨vb, w, b, v, f, p, he⟩ := memRead_readStep s.apu.dmc.curAddr s
    have hwf := (memRead_busStep s.apu.dmc.curAddr s).wf
    dsimp only
    rw [he] at hwf hp ⊢
    constructor <;> first | rfl | exact ⟨rfl, rfl, rfl⟩ | exact hp | skip
    intro h
    have h' := hwf h
    exact ⟨h'.ram, h'.mapper, h'.ppu,
      ⟨dmc_receive_wf h.apu.dmc (h.apu.dmc.running hne) _, h.apu.lfsr, h.apu.sequencer⟩⟩
  · exact ApuStepKeeps.refl s

theorem sampleClock_wf {u : Apu} (h : ApuWf u) (cfg : Params) : ApuWf (u.sampleClock cfg) := by
  unfold Apu.sampleClock
  dsimp only
  split <;> exact ⟨h.dmc, h.lfsr, h.sequencer⟩

theorem apuStep_keeps (s : State) : ApuStepKeeps s (apuStep s) :=
  ((ApuStepKeeps.ofApu s s.apu.clockTimers clockTimers_wf).trans (dmcReader_keeps _)).trans
    (ApuStepKeeps.ofApu _ _ fun h => sampleClock_wf (sequencer_wf h) _)

theorem apuRun_keeps (n : Nat) (s : State) : ApuStepKeeps s (apuRun n s) := by
  induction n generalizing s with
  | zero => exact ApuStepKeeps.refl s
  | succ n ih => exact (apuStep_keeps s).trans (ih (apuStep s))

end Sys2Proof.Machine
end

