-- ==== Sys2Proof/Laws/Ops.lean ====
section
/-! SUPPORT. One lemma for each shared operation of Machine/Ops.lean and Machine/Operands.lean that says what it can do: the
reads that only read, the stack, exception entry and return, and the shapes of instruction, each of which answers a next
state. -/
namespace Sys2Proof.Machine

open Sys2Proof.Config Sys2Proof.Safety

/-! ### What a CPU step leaves alone -/

/-- What any number of accesses and register changes leaves alone, and the invariant they keep. -/
structure CpuStep (s t : State) : Prop where
  cfg : t.cfg = s.cfg
  mapper : mapperFixed t.mapper = mapperFixed s.mapper
  cycles : t.console.cycles = s.console.cycles
  frameTarget3 : t.console.frameTarget3 = s.console.frameTarget3
  pendingStall : t.console.pendingStall = s.console.pendingStall
  loaded : t.console.loaded = s.console.loaded
  pad : t.console.pad = s.console.pad
  dot : t.ppu.dot = s.ppu.dot
  scanline : t.ppu.scanline = s.ppu.scanline
  frame : t.ppu.frame = s.ppu.frame
  sampleAcc : t.apu.sampleAcc = s.apu.sampleAcc
  queue : t.apu.queue = s.apu.queue
  odd : t.apu.odd = s.apu.odd
  back : t.ppu.back = s.ppu.back
  front : t.ppu.front = s.ppu.front
  consoleReturn : t.consoleReturn = s.consoleReturn
  wf : Wf s → Wf t

theorem BusStep.cpuStep {s t : State} (h : BusStep s t) : CpuStep s t :=
  ⟨h.cfg, h.mapper, h.cycles, h.frameTarget3, h.pendingStall, h.loaded, h.pad, h.dot, h.scanline, h.frame,
    h.sampleAcc, h.queue, h.odd, h.back, h.front, h.consoleReturn, h.wf⟩

theorem CpuStep.refl (s : State) : CpuStep s s := (BusStep.refl s).cpuStep

theorem CpuStep.trans {s t u : State} (h : CpuStep s t) (h' : CpuStep t u) : CpuStep s u :=
  ⟨h'.cfg.trans h.cfg, h'.mapper.trans h.mapper, h'.cycles.trans h.cycles, h'.frameTarget3.trans h.frameTarget3,
    h'.pendingStall.trans h.pendingStall, h'.loaded.trans h.loaded, h'.pad.trans h.pad, h'.dot.trans h.dot,
    h'.scanline.trans h.scanline, h'.frame.trans h.frame, h'.sampleAcc.trans h.sampleAcc, h'.queue.trans h.queue,
    h'.odd.trans h.odd, h'.back.trans h.back, h'.front.trans h.front, h'.consoleReturn.trans h.consoleReturn,
    h'.wf ∘ h.wf⟩

/-- A change of the CPU and of the returned count alone. -/
theorem CpuStep.ofCpu (s : State) (c : Cpu) (n : Nat) : CpuStep s { s with cpu := c, cpuReturn := n } := by
  constructor <;> first | rfl | exact fun h => ⟨h.ram, h.mapper, h.ppu, h.apu⟩

theorem CpuStep.mapCpu {s t : State} (h : CpuStep s t) (f : Cpu → Cpu) : CpuStep s (t.mapCpu f) :=
  h.trans (CpuStep.ofCpu t (f t.cpu) t.cpuReturn)

theorem CpuStep.setPc {s t : State} (h : CpuStep s t) (a : Addr) : CpuStep s (t.setPc a) :=
  h.trans (CpuStep.ofCpu t { t.cpu with pc := a } t.cpuReturn)

theorem CpuStep.cpuReturn {s t : State} (h : CpuStep s t) (n : Nat) : CpuStep s { t with cpuReturn := n } :=
  h.trans (CpuStep.ofCpu t t.cpu n)

theorem CpuStep.memRead {s t : State} (h : CpuStep s t) (a : Addr) : CpuStep s (memRead a t).2 :=
  h.trans (memRead_busStep a t).cpuStep

theorem CpuStep.memWrite {s t : State} (h : CpuStep s t) (a : Addr) (v : Byte) : CpuStep s (memWrite a v t) :=
  h.trans (memWrite_busStep a v t).cpuStep

/-! ### Reads of two bytes, operands, fetch -/

theorem readVector_readStep (vec : Addr) (s : State) : ReadStep s (readVector vec s).2 :=
  (memRead_readStep _ s).trans (memRead_readStep _ _)

theorem zeroPagePointer_readStep (z : Byte) (s : State) : ReadStep s (zeroPagePointer z s).2 :=
  (memRead_readStep _ s).trans (memRead_readStep _ _)

theorem indirectPointer_readStep (p : Addr) (s : State) : ReadStep s (indirectPointer p s).2 :=
  (memRead_readStep _ s).trans (memRead_readStep _ _)

theorem resolve_readStep (m : Mode) (s : State) : ReadStep s (resolve m s).2 := by
  cases m with
  | ind p => exact indirectPointer_readStep p s
  | izx z => exact zeroPagePointer_readStep _ s
  | izy z => exact zeroPagePointer_readStep z s
  | _ => exact ReadStep.refl s

theorem loadOperand_readStep (m : Mode) (ea : Addr) (s : State) : ReadStep s (loadOperand m ea s).2 := by
  cases m with
  | imm v => exact ReadStep.refl s
  | _ => exact memRead_readStep ea s

theorem fetchInstr_readStep (s : State) : ReadStep s (fetchInstr s).2 := by
  unfold fetchInstr
  dsimp only
  split
  · exact memRead_readStep _ s
  · exact (memRead_readStep _ s).trans (memRead_readStep _ _)
  · exact ((memRead_readStep _ s).trans (memRead_readStep _ _)).trans (memRead_readStep _ _)

/-- Reads keep the whole CPU. -/
theorem ReadStep.cpu_eq {s t : State} (h : ReadStep s t) : t.cpu = s.cpu := by
  obtain ⟨_, _, _, _, _, _, rfl⟩ := h
  rfl

/-- Reads keep work RAM. -/
theorem ReadStep.ram_eq {s t : State} (h : ReadStep s t) : t.ram = s.ram := by
  obtain ⟨_, _, _, _, _, _, rfl⟩ := h
  rfl

/-- Reads keep the Mapper. -/
theorem ReadStep.mapper_eq {s t : State} (h : ReadStep s t) : t.mapper = s.mapper := by
  obtain ⟨_, _, _, _, _, _, rfl⟩ := h
  rfl

/-- Reads keep the parameters. -/
theorem ReadStep.cfg_eq {s t : State} (h : ReadStep s t) : t.cfg = s.cfg := by
  obtain ⟨_, _, _, _, _, _, rfl⟩ := h
  rfl

@[simp] theorem memRead_cpu (a : Addr) (s : State) : (memRead a s).2.cpu = s.cpu := (memRead_readStep a s).cpu_eq

@[simp] theorem resolve_cpu (m : Mode) (s : State) : (resolve m s).2.cpu = s.cpu := (resolve_readStep m s).cpu_eq

@[simp] theorem loadOperand_cpu (m : Mode) (ea : Addr) (s : State) : (loadOperand m ea s).2.cpu = s.cpu :=
  (loadOperand_readStep m ea s).cpu_eq

@[simp] theorem fetchInstr_cpu (s : State) : (fetchInstr s).2.cpu = s.cpu := (fetchInstr_readStep s).cpu_eq

/-- Resolving an operand moves PC past the instruction and keeps every other register. -/
@[simp] theorem operand_cpu (m : Mode) (s : State) :
    (operand m s).2.cpu = { s.cpu with pc := s.cpu.pc + BitVec.ofNat 16 m.length } := by
  simp [operand]

/-- A write keeps every register and flag. -/
theorem memWrite_cpu (a : Addr) (v : Byte) (s : State) :
    (memWrite a v s).cpu = { s.cpu with nmiPending := (memWrite a v s).cpu.nmiPending } :=
  (memWrite_busStep a v s).cpu

theorem operand_cpuStep (m : Mode) (s : State) : CpuStep s (operand m s).2 :=
  ((resolve_readStep m s).busStep.cpuStep).setPc _

theorem fetchInstr_cpuStep (s : State) : CpuStep s (fetchInstr s).2 := (fetchInstr_readStep s).busStep.cpuStep

/-! ### The stack and exceptions -/

theorem stackAddr_toNat (sp : Byte) : (stackAddr sp).toNat = 0x100 + sp.toNat := by
  have := sp.isLt
  simp only [stackAddr, word, BitVec.toNat_append]
  rw [Nat.shiftLeft_eq, Nat.mul_comm, ← Nat.two_pow_add_eq_or_of_lt this]
  rfl

theorem stackAddr_le (sp : Byte) : (stackAddr sp).toNat ≤ 0x1FFF := by
  have := sp.isLt
  rw [stackAddr_toNat]
  omega

theorem ramIndex_stackAddr (sp : Byte) : ramIndex (stackAddr sp) = 0x100 + sp.toNat := by
  have := sp.isLt
  rw [ramIndex, stackAddr_toNat]
  omega

/-- A push writes the one cell of the stack page at S and moves S down. -/
theorem push_eq (v : Byte) (s : State) :
    push v s = { s with
      ram := s.ram.write (0x100 + s.cpu.s.toNat) v
      cpu := { s.cpu with s := s.cpu.s - 1#8 } } := by
  rw [push, memWrite_ram (stackAddr_le _), ramIndex_stackAddr]
  rfl

/-- A pull moves S up, reads the cell there and changes nothing else. -/
theorem pull_eq (s : State) :
    pull s = (s.ram.read (0x100 + (s.cpu.s + 1#8).toNat), { s with cpu := { s.cpu with s := s.cpu.s + 1#8 } }) := by
  rw [pull, memRead_ram (stackAddr_le _), ramIndex_stackAddr]
  rfl

theorem CpuStep.push {s t : State} (h : CpuStep s t) (v : Byte) : CpuStep s (push v t) :=
  (h.memWrite _ v).mapCpu _

theorem CpuStep.pull {s t : State} (h : CpuStep s t) : CpuStep s (pull t).2 := (h.mapCpu _).memRead _

theorem CpuStep.pushWord {s t : State} (h : CpuStep s t) (w : Addr) : CpuStep s (pushWord w t) :=
  (h.push (hi w)).push (lo w)

theorem CpuStep.pullWord {s t : State} (h : CpuStep s t) : CpuStep s (pullWord t).2 := h.pull.pull

/-- The vectors lie in cartridge space: reading one changes nothing. -/
theorem readVector_eq {vec : Addr} (h : 0x4020 ≤ vec.toNat) (h' : vec.toNat < 0xFFFF) (s : State) :
    readVector vec s = (word (mapperCpuRead s.cfg.unmappedRead s.mapper (vec + 1#16))
      (mapperCpuRead s.cfg.unmappedRead s.mapper vec), s) := by
  rw [readVector, memRead_cartridge h]
  dsimp only
  rw [memRead_cartridge (by bv_omega)]

theorem CpuStep.takeException {s t : State} (h : CpuStep s t) (ret : Addr) (b : Bool) (vec : Addr) :
    CpuStep s (takeException ret b vec t) := by
  unfold Machine.takeException
  exact ((((h.pushWord ret).push _).mapCpu _).trans (readVector_readStep vec _).busStep.cpuStep).setPc _

theorem CpuStep.returnFromException {s t : State} (h : CpuStep s t) : CpuStep s (returnFromException t) := by
  unfold Machine.returnFromException
  exact (h.pull.mapCpu _).pullWord.setPc _

/-! ### The shapes of instruction -/

/-- A meaning completes: it answers a next state that leaves alone what `CpuStep` says, and returns two to eight cycles. -/
def Completes (s : State) (o : Host.Outcome State Fault Refusal) : Prop :=
  ∃ t, o = .next t ∧ CpuStep s t ∧ 2 ≤ t.cpuReturn ∧ t.cpuReturn ≤ 8

theorem CpuStep.completes {s t : State} (h : CpuStep s t) {n : Nat} (h2 : 2 ≤ n) (h8 : n ≤ 8) :
    Completes s (finish n t) := ⟨_, rfl, h.cpuReturn n, h2, h8⟩

theorem cost_bounds (base : Nat) (p c : Bool) : base ≤ cost base p c ∧ cost base p c ≤ base + 1 := by
  unfold cost
  split <;> omega

theorem readOp_completes (m : Mode) (base : Nat) (p : Bool) (f : Byte → Cpu → Cpu) (s : State) (h : 2 ≤ base)
    (h' : base ≤ 7) : Completes s (readOp m base p f s) := by
  have hc := cost_bounds base p (operand m s).1.crossed
  exact (((operand_cpuStep m s).trans (loadOperand_readStep m _ _).busStep.cpuStep).mapCpu _).completes
    (by omega) (by omega)

theorem storeOp_completes (m : Mode) (base : Nat) (v : Cpu → Byte) (s : State) (h : 2 ≤ base) (h' : base ≤ 8) :
    Completes s (storeOp m base v s) := ((operand_cpuStep m s).memWrite _ _).completes h h'

theorem rmwOp_completes (m : Mode) (base : Nat) (f : Byte → Cpu → Byte × Cpu) (g : Byte → Cpu → Cpu) (s : State)
    (h : 2 ≤ base) (h' : base ≤ 8) : Completes s (rmwOp m base f g s) :=
  ((((operand_cpuStep m s).memRead _).trans (CpuStep.ofCpu _ _ _)).memWrite _ _).mapCpu _ |>.completes h h'

theorem impliedOp_completes (base : Nat) (f : Cpu → Cpu) (s : State) (h : 2 ≤ base) (h' : base ≤ 8) :
    Completes s (impliedOp base f s) := ((operand_cpuStep .imp s).mapCpu f).completes h h'

theorem accOp_completes (base : Nat) (f : Byte → Cpu → Byte × Cpu) (s : State) (h : 2 ≤ base) (h' : base ≤ 8) :
    Completes s (accOp base f s) := ((operand_cpuStep .acc s).mapCpu _).completes h h'

theorem branchOp_completes (off : Byte) (taken : Cpu → Bool) (s : State) : Completes s (branchOp off taken s) := by
  unfold branchOp
  dsimp only
  split
  · exact ((operand_cpuStep _ s).setPc _).completes (by split <;> omega) (by split <;> omega)
  · exact (operand_cpuStep _ s).completes (by omega) (by omega)

theorem jumpOp_completes (m : Mode) (base : Nat) (s : State) (h : 2 ≤ base) (h' : base ≤ 8) :
    Completes s (jumpOp m base s) := ((operand_cpuStep m s).setPc _).completes h h'

theorem unstableStoreOp_completes (m : Mode) (base : Nat) (pre : Cpu → Cpu) (v : Cpu → Byte) (s : State) (h : 2 ≤ base)
    (h' : base ≤ 8) : Completes s (unstableStoreOp m base pre v s) :=
  (((operand_cpuStep m s).mapCpu pre).memWrite _ _).completes h h'

end Sys2Proof.Machine
end

