-- ==== Sys2Proof/Laws/Exec.lean ====
section
/-! SUPPORT. What `exec` runs for each constructor, as the shared shape its meaning is. Later proofs rewrite with these and
cite the lemma of the shape. -/
namespace Sys2Proof.Machine

theorem exec_brk (s : State) :
    exec .brk s = finish 7 (takeException (s.cpu.pc + 2#16) true irqVector (pastOpcode s)) := rfl
theorem exec_oraIzx (z : Byte) (s : State) :
    exec (.oraIzx z) s = readOp (.izx z) 6 false Cpu.ora s := rfl
theorem exec_jam (k : JamByte) (s : State) :
    exec (.jam k) s = jamOp s := rfl
theorem exec_sloIzx (z : Byte) (s : State) :
    exec (.sloIzx z) s = rmwOp (.izx z) 8 Cpu.asl Cpu.ora s := rfl
theorem exec_nopZp (k : NopZpByte) (z : Byte) (s : State) :
    exec (.nopZp k z) s = readOp (.zp z) 3 false Cpu.nopRead s := rfl
theorem exec_oraZp (z : Byte) (s : State) :
    exec (.oraZp z) s = readOp (.zp z) 3 false Cpu.ora s := rfl
theorem exec_aslZp (z : Byte) (s : State) :
    exec (.aslZp z) s = rmwOp (.zp z) 5 Cpu.asl Cpu.keep s := rfl
theorem exec_sloZp (z : Byte) (s : State) :
    exec (.sloZp z) s = rmwOp (.zp z) 5 Cpu.asl Cpu.ora s := rfl
theorem exec_php (s : State) :
    exec .php s = finish 3 (push ((pastOpcode s).cpu.packP true) (pastOpcode s)) := rfl
theorem exec_oraImm (v : Byte) (s : State) :
    exec (.oraImm v) s = readOp (.imm v) 2 false Cpu.ora s := rfl
theorem exec_aslAcc (s : State) :
    exec .aslAcc s = accOp 2 Cpu.asl s := rfl
theorem exec_ancImm (k : AncImmByte) (v : Byte) (s : State) :
    exec (.ancImm k v) s = readOp (.imm v) 2 false Cpu.anc s := rfl
theorem exec_nopAbs (a : Addr) (s : State) :
    exec (.nopAbs a) s = readOp (.abs a) 4 false Cpu.nopRead s := rfl
theorem exec_oraAbs (a : Addr) (s : State) :
    exec (.oraAbs a) s = readOp (.abs a) 4 false Cpu.ora s := rfl
theorem exec_aslAbs (a : Addr) (s : State) :
    exec (.aslAbs a) s = rmwOp (.abs a) 6 Cpu.asl Cpu.keep s := rfl
theorem exec_sloAbs (a : Addr) (s : State) :
    exec (.sloAbs a) s = rmwOp (.abs a) 6 Cpu.asl Cpu.ora s := rfl
theorem exec_bpl (off : Byte) (s : State) :
    exec (.bpl off) s = branchOp off (fun c => !c.n) s := rfl
theorem exec_oraIzy (z : Byte) (s : State) :
    exec (.oraIzy z) s = readOp (.izy z) 5 true Cpu.ora s := rfl
theorem exec_sloIzy (z : Byte) (s : State) :
    exec (.sloIzy z) s = rmwOp (.izy z) 8 Cpu.asl Cpu.ora s := rfl
theorem exec_nopZpx (k : NopZpxByte) (z : Byte) (s : State) :
    exec (.nopZpx k z) s = readOp (.zpx z) 4 false Cpu.nopRead s := rfl
theorem exec_oraZpx (z : Byte) (s : State) :
    exec (.oraZpx z) s = readOp (.zpx z) 4 false Cpu.ora s := rfl
theorem exec_aslZpx (z : Byte) (s : State) :
    exec (.aslZpx z) s = rmwOp (.zpx z) 6 Cpu.asl Cpu.keep s := rfl
theorem exec_sloZpx (z : Byte) (s : State) :
    exec (.sloZpx z) s = rmwOp (.zpx z) 6 Cpu.asl Cpu.ora s := rfl
theorem exec_clc (s : State) :
    exec .clc s = impliedOp 2 (fun c => { c with c := false }) s := rfl
theorem exec_oraAby (a : Addr) (s : State) :
    exec (.oraAby a) s = readOp (.aby a) 4 true Cpu.ora s := rfl
theorem exec_nopImp (k : NopImpByte) (s : State) :
    exec (.nopImp k) s = impliedOp 2 (fun c => c) s := rfl
theorem exec_sloAby (a : Addr) (s : State) :
    exec (.sloAby a) s = rmwOp (.aby a) 7 Cpu.asl Cpu.ora s := rfl
theorem exec_nopAbx (k : NopAbxByte) (a : Addr) (s : State) :
    exec (.nopAbx k a) s = readOp (.abx a) 4 true Cpu.nopRead s := rfl
theorem exec_oraAbx (a : Addr) (s : State) :
    exec (.oraAbx a) s = readOp (.abx a) 4 true Cpu.ora s := rfl
theorem exec_aslAbx (a : Addr) (s : State) :
    exec (.aslAbx a) s = rmwOp (.abx a) 7 Cpu.asl Cpu.keep s := rfl
theorem exec_sloAbx (a : Addr) (s : State) :
    exec (.sloAbx a) s = rmwOp (.abx a) 7 Cpu.asl Cpu.ora s := rfl
theorem exec_jsrAbs (a : Addr) (s : State) :
    exec (.jsrAbs a) s = finish 6 ((pushWord (s.cpu.pc + 2#16) (operand (.abs a) s).2).setPc (operand (.abs a) s).1.ea) := rfl
theorem exec_andIzx (z : Byte) (s : State) :
    exec (.andIzx z) s = readOp (.izx z) 6 false Cpu.and s := rfl
theorem exec_rlaIzx (z : Byte) (s : State) :
    exec (.rlaIzx z) s = rmwOp (.izx z) 8 Cpu.rol Cpu.and s := rfl
theorem exec_bitZp (z : Byte) (s : State) :
    exec (.bitZp z) s = readOp (.zp z) 3 false Cpu.bit s := rfl
theorem exec_andZp (z : Byte) (s : State) :
    exec (.andZp z) s = readOp (.zp z) 3 false Cpu.and s := rfl
theorem exec_rolZp (z : Byte) (s : State) :
    exec (.rolZp z) s = rmwOp (.zp z) 5 Cpu.rol Cpu.keep s := rfl
theorem exec_rlaZp (z : Byte) (s : State) :
    exec (.rlaZp z) s = rmwOp (.zp z) 5 Cpu.rol Cpu.and s := rfl
theorem exec_plp (s : State) :
    exec .plp s = finish 4 ((pull (pastOpcode s)).2.mapCpu (Cpu.unpackP (pull (pastOpcode s)).1)) := rfl
theorem exec_andImm (v : Byte) (s : State) :
    exec (.andImm v) s = readOp (.imm v) 2 false Cpu.and s := rfl
theorem exec_rolAcc (s : State) :
    exec .rolAcc s = accOp 2 Cpu.rol s := rfl
theorem exec_bitAbs (a : Addr) (s : State) :
    exec (.bitAbs a) s = readOp (.abs a) 4 false Cpu.bit s := rfl
theorem exec_andAbs (a : Addr) (s : State) :
    exec (.andAbs a) s = readOp (.abs a) 4 false Cpu.and s := rfl
theorem exec_rolAbs (a : Addr) (s : State) :
    exec (.rolAbs a) s = rmwOp (.abs a) 6 Cpu.rol Cpu.keep s := rfl
theorem exec_rlaAbs (a : Addr) (s : State) :
    exec (.rlaAbs a) s = rmwOp (.abs a) 6 Cpu.rol Cpu.and s := rfl
theorem exec_bmi (off : Byte) (s : State) :
    exec (.bmi off) s = branchOp off (fun c => c.n) s := rfl
theorem exec_andIzy (z : Byte) (s : State) :
    exec (.andIzy z) s = readOp (.izy z) 5 true Cpu.and s := rfl
theorem exec_rlaIzy (z : Byte) (s : State) :
    exec (.rlaIzy z) s = rmwOp (.izy z) 8 Cpu.rol Cpu.and s := rfl
theorem exec_andZpx (z : Byte) (s : State) :
    exec (.andZpx z) s = readOp (.zpx z) 4 false Cpu.and s := rfl
theorem exec_rolZpx (z : Byte) (s : State) :
    exec (.rolZpx z) s = rmwOp (.zpx z) 6 Cpu.rol Cpu.keep s := rfl
theorem exec_rlaZpx (z : Byte) (s : State) :
    exec (.rlaZpx z) s = rmwOp (.zpx z) 6 Cpu.rol Cpu.and s := rfl
theorem exec_sec (s : State) :
    exec .sec s = impliedOp 2 (fun c => { c with c := true }) s := rfl
theorem exec_andAby (a : Addr) (s : State) :
    exec (.andAby a) s = readOp (.aby a) 4 true Cpu.and s := rfl
theorem exec_rlaAby (a : Addr) (s : State) :
    exec (.rlaAby a) s = rmwOp (.aby a) 7 Cpu.rol Cpu.and s := rfl
theorem exec_andAbx (a : Addr) (s : State) :
    exec (.andAbx a) s = readOp (.abx a) 4 true Cpu.and s := rfl
theorem exec_rolAbx (a : Addr) (s : State) :
    exec (.rolAbx a) s = rmwOp (.abx a) 7 Cpu.rol Cpu.keep s := rfl
theorem exec_rlaAbx (a : Addr) (s : State) :
    exec (.rlaAbx a) s = rmwOp (.abx a) 7 Cpu.rol Cpu.and s := rfl
theorem exec_rti (s : State) :
    exec .rti s = finish 6 (returnFromException (pastOpcode s)) := rfl
theorem exec_eorIzx (z : Byte) (s : State) :
    exec (.eorIzx z) s = readOp (.izx z) 6 false Cpu.eor s := rfl
theorem exec_sreIzx (z : Byte) (s : State) :
    exec (.sreIzx z) s = rmwOp (.izx z) 8 Cpu.lsr Cpu.eor s := rfl
theorem exec_eorZp (z : Byte) (s : State) :
    exec (.eorZp z) s = readOp (.zp z) 3 false Cpu.eor s := rfl
theorem exec_lsrZp (z : Byte) (s : State) :
    exec (.lsrZp z) s = rmwOp (.zp z) 5 Cpu.lsr Cpu.keep s := rfl
theorem exec_sreZp (z : Byte) (s : State) :
    exec (.sreZp z) s = rmwOp (.zp z) 5 Cpu.lsr Cpu.eor s := rfl
theorem exec_pha (s : State) :
    exec .pha s = finish 3 (push (pastOpcode s).cpu.a (pastOpcode s)) := rfl
theorem exec_eorImm (v : Byte) (s : State) :
    exec (.eorImm v) s = readOp (.imm v) 2 false Cpu.eor s := rfl
theorem exec_lsrAcc (s : State) :
    exec .lsrAcc s = accOp 2 Cpu.lsr s := rfl
theorem exec_alrImm (v : Byte) (s : State) :
    exec (.alrImm v) s = readOp (.imm v) 2 false Cpu.alr s := rfl
theorem exec_jmpAbs (a : Addr) (s : State) :
    exec (.jmpAbs a) s = jumpOp (.abs a) 3 s := rfl
theorem exec_eorAbs (a : Addr) (s : State) :
    exec (.eorAbs a) s = readOp (.abs a) 4 false Cpu.eor s := rfl
theorem exec_lsrAbs (a : Addr) (s : State) :
    exec (.lsrAbs a) s = rmwOp (.abs a) 6 Cpu.lsr Cpu.keep s := rfl
theorem exec_sreAbs (a : Addr) (s : State) :
    exec (.sreAbs a) s = rmwOp (.abs a) 6 Cpu.lsr Cpu.eor s := rfl
theorem exec_bvc (off : Byte) (s : State) :
    exec (.bvc off) s = branchOp off (fun c => !c.v) s := rfl
theorem exec_eorIzy (z : Byte) (s : State) :
    exec (.eorIzy z) s = readOp (.izy z) 5 true Cpu.eor s := rfl
theorem exec_sreIzy (z : Byte) (s : State) :
    exec (.sreIzy z) s = rmwOp (.izy z) 8 Cpu.lsr Cpu.eor s := rfl
theorem exec_eorZpx (z : Byte) (s : State) :
    exec (.eorZpx z) s = readOp (.zpx z) 4 false Cpu.eor s := rfl
theorem exec_lsrZpx (z : Byte) (s : State) :
    exec (.lsrZpx z) s = rmwOp (.zpx z) 6 Cpu.lsr Cpu.keep s := rfl
theorem exec_sreZpx (z : Byte) (s : State) :
    exec (.sreZpx z) s = rmwOp (.zpx z) 6 Cpu.lsr Cpu.eor s := rfl
theorem exec_cli (s : State) :
    exec .cli s = impliedOp 2 (fun c => { c with i := false }) s := rfl
theorem exec_eorAby (a : Addr) (s : State) :
    exec (.eorAby a) s = readOp (.aby a) 4 true Cpu.eor s := rfl
theorem exec_sreAby (a : Addr) (s : State) :
    exec (.sreAby a) s = rmwOp (.aby a) 7 Cpu.lsr Cpu.eor s := rfl
theorem exec_eorAbx (a : Addr) (s : State) :
    exec (.eorAbx a) s = readOp (.abx a) 4 true Cpu.eor s := rfl
theorem exec_lsrAbx (a : Addr) (s : State) :
    exec (.lsrAbx a) s = rmwOp (.abx a) 7 Cpu.lsr Cpu.keep s := rfl
theorem exec_sreAbx (a : Addr) (s : State) :
    exec (.sreAbx a) s = rmwOp (.abx a) 7 Cpu.lsr Cpu.eor s := rfl
theorem exec_rts (s : State) :
    exec .rts s = finish 6 ((pullWord (pastOpcode s)).2.setPc ((pullWord (pastOpcode s)).1 + 1#16)) := rfl
theorem exec_adcIzx (z : Byte) (s : State) :
    exec (.adcIzx z) s = readOp (.izx z) 6 false Cpu.adc s := rfl
theorem exec_rraIzx (z : Byte) (s : State) :
    exec (.rraIzx z) s = rmwOp (.izx z) 8 Cpu.ror Cpu.adc s := rfl
theorem exec_adcZp (z : Byte) (s : State) :
    exec (.adcZp z) s = readOp (.zp z) 3 false Cpu.adc s := rfl
theorem exec_rorZp (z : Byte) (s : State) :
    exec (.rorZp z) s = rmwOp (.zp z) 5 Cpu.ror Cpu.keep s := rfl
theorem exec_rraZp (z : Byte) (s : State) :
    exec (.rraZp z) s = rmwOp (.zp z) 5 Cpu.ror Cpu.adc s := rfl
theorem exec_pla (s : State) :
    exec .pla s = finish 4 ((pull (pastOpcode s)).2.mapCpu (Cpu.loadA (pull (pastOpcode s)).1)) := rfl
theorem exec_adcImm (v : Byte) (s : State) :
    exec (.adcImm v) s = readOp (.imm v) 2 false Cpu.adc s := rfl
theorem exec_rorAcc (s : State) :
    exec .rorAcc s = accOp 2 Cpu.ror s := rfl
theorem exec_arrImm (v : Byte) (s : State) :
    exec (.arrImm v) s = readOp (.imm v) 2 false Cpu.arr s := rfl
theorem exec_jmpInd (a : Addr) (s : State) :
    exec (.jmpInd a) s = jumpOp (.ind a) 5 s := rfl
theorem exec_adcAbs (a : Addr) (s : State) :
    exec (.adcAbs a) s = readOp (.abs a) 4 false Cpu.adc s := rfl
theorem exec_rorAbs (a : Addr) (s : State) :
    exec (.rorAbs a) s = rmwOp (.abs a) 6 Cpu.ror Cpu.keep s := rfl
theorem exec_rraAbs (a : Addr) (s : State) :
    exec (.rraAbs a) s = rmwOp (.abs a) 6 Cpu.ror Cpu.adc s := rfl
theorem exec_bvs (off : Byte) (s : State) :
    exec (.bvs off) s = branchOp off (fun c => c.v) s := rfl
theorem exec_adcIzy (z : Byte) (s : State) :
    exec (.adcIzy z) s = readOp (.izy z) 5 true Cpu.adc s := rfl
theorem exec_rraIzy (z : Byte) (s : State) :
    exec (.rraIzy z) s = rmwOp (.izy z) 8 Cpu.ror Cpu.adc s := rfl
theorem exec_adcZpx (z : Byte) (s : State) :
    exec (.adcZpx z) s = readOp (.zpx z) 4 false Cpu.adc s := rfl
theorem exec_rorZpx (z : Byte) (s : State) :
    exec (.rorZpx z) s = rmwOp (.zpx z) 6 Cpu.ror Cpu.keep s := rfl
theorem exec_rraZpx (z : Byte) (s : State) :
    exec (.rraZpx z) s = rmwOp (.zpx z) 6 Cpu.ror Cpu.adc s := rfl
theorem exec_sei (s : State) :
    exec .sei s = impliedOp 2 (fun c => { c with i := true }) s := rfl
theorem exec_adcAby (a : Addr) (s : State) :
    exec (.adcAby a) s = readOp (.aby a) 4 true Cpu.adc s := rfl
theorem exec_rraAby (a : Addr) (s : State) :
    exec (.rraAby a) s = rmwOp (.aby a) 7 Cpu.ror Cpu.adc s := rfl
theorem exec_adcAbx (a : Addr) (s : State) :
    exec (.adcAbx a) s = readOp (.abx a) 4 true Cpu.adc s := rfl
theorem exec_rorAbx (a : Addr) (s : State) :
    exec (.rorAbx a) s = rmwOp (.abx a) 7 Cpu.ror Cpu.keep s := rfl
theorem exec_rraAbx (a : Addr) (s : State) :
    exec (.rraAbx a) s = rmwOp (.abx a) 7 Cpu.ror Cpu.adc s := rfl
theorem exec_nopImm (k : NopImmByte) (v : Byte) (s : State) :
    exec (.nopImm k v) s = readOp (.imm v) 2 false Cpu.nopRead s := rfl
theorem exec_staIzx (z : Byte) (s : State) :
    exec (.staIzx z) s = storeOp (.izx z) 6 (fun c => c.a) s := rfl
theorem exec_saxIzx (z : Byte) (s : State) :
    exec (.saxIzx z) s = storeOp (.izx z) 6 (fun c => c.a &&& c.x) s := rfl
theorem exec_styZp (z : Byte) (s : State) :
    exec (.styZp z) s = storeOp (.zp z) 3 (fun c => c.y) s := rfl
theorem exec_staZp (z : Byte) (s : State) :
    exec (.staZp z) s = storeOp (.zp z) 3 (fun c => c.a) s := rfl
theorem exec_stxZp (z : Byte) (s : State) :
    exec (.stxZp z) s = storeOp (.zp z) 3 (fun c => c.x) s := rfl
theorem exec_saxZp (z : Byte) (s : State) :
    exec (.saxZp z) s = storeOp (.zp z) 3 (fun c => c.a &&& c.x) s := rfl
theorem exec_dey (s : State) :
    exec .dey s = impliedOp 2 (fun c => c.loadY (c.y - 1#8)) s := rfl
theorem exec_txa (s : State) :
    exec .txa s = impliedOp 2 (fun c => c.loadA c.x) s := rfl
theorem exec_xaaImm (v : Byte) (s : State) :
    exec (.xaaImm v) s = readOp (.imm v) 2 false (Cpu.xaa s.cfg.xaaMagic) s := rfl
theorem exec_styAbs (a : Addr) (s : State) :
    exec (.styAbs a) s = storeOp (.abs a) 4 (fun c => c.y) s := rfl
theorem exec_staAbs (a : Addr) (s : State) :
    exec (.staAbs a) s = storeOp (.abs a) 4 (fun c => c.a) s := rfl
theorem exec_stxAbs (a : Addr) (s : State) :
    exec (.stxAbs a) s = storeOp (.abs a) 4 (fun c => c.x) s := rfl
theorem exec_saxAbs (a : Addr) (s : State) :
    exec (.saxAbs a) s = storeOp (.abs a) 4 (fun c => c.a &&& c.x) s := rfl
theorem exec_bcc (off : Byte) (s : State) :
    exec (.bcc off) s = branchOp off (fun c => !c.c) s := rfl
theorem exec_staIzy (z : Byte) (s : State) :
    exec (.staIzy z) s = storeOp (.izy z) 6 (fun c => c.a) s := rfl
theorem exec_shaIzy (z : Byte) (s : State) :
    exec (.shaIzy z) s = unstableStoreOp (.izy z) 6 id (fun c => c.a &&& c.x) s := rfl
theorem exec_styZpx (z : Byte) (s : State) :
    exec (.styZpx z) s = storeOp (.zpx z) 4 (fun c => c.y) s := rfl
theorem exec_staZpx (z : Byte) (s : State) :
    exec (.staZpx z) s = storeOp (.zpx z) 4 (fun c => c.a) s := rfl
theorem exec_stxZpy (z : Byte) (s : State) :
    exec (.stxZpy z) s = storeOp (.zpy z) 4 (fun c => c.x) s := rfl
theorem exec_saxZpy (z : Byte) (s : State) :
    exec (.saxZpy z) s = storeOp (.zpy z) 4 (fun c => c.a &&& c.x) s := rfl
theorem exec_tya (s : State) :
    exec .tya s = impliedOp 2 (fun c => c.loadA c.y) s := rfl
theorem exec_staAby (a : Addr) (s : State) :
    exec (.staAby a) s = storeOp (.aby a) 5 (fun c => c.a) s := rfl
theorem exec_txs (s : State) :
    exec .txs s = impliedOp 2 (fun c => { c with s := c.x }) s := rfl
theorem exec_tasAby (a : Addr) (s : State) :
    exec (.tasAby a) s = unstableStoreOp (.aby a) 5 Cpu.tasS (fun c => c.s) s := rfl
theorem exec_shyAbx (a : Addr) (s : State) :
    exec (.shyAbx a) s = unstableStoreOp (.abx a) 5 id (fun c => c.y) s := rfl
theorem exec_staAbx (a : Addr) (s : State) :
    exec (.staAbx a) s = storeOp (.abx a) 5 (fun c => c.a) s := rfl
theorem exec_shxAby (a : Addr) (s : State) :
    exec (.shxAby a) s = unstableStoreOp (.aby a) 5 id (fun c => c.x) s := rfl
theorem exec_shaAby (a : Addr) (s : State) :
    exec (.shaAby a) s = unstableStoreOp (.aby a) 5 id (fun c => c.a &&& c.x) s := rfl
theorem exec_ldyImm (v : Byte) (s : State) :
    exec (.ldyImm v) s = readOp (.imm v) 2 false Cpu.loadY s := rfl
theorem exec_ldaIzx (z : Byte) (s : State) :
    exec (.ldaIzx z) s = readOp (.izx z) 6 false Cpu.loadA s := rfl
theorem exec_ldxImm (v : Byte) (s : State) :
    exec (.ldxImm v) s = readOp (.imm v) 2 false Cpu.loadX s := rfl
theorem exec_laxIzx (z : Byte) (s : State) :
    exec (.laxIzx z) s = readOp (.izx z) 6 false Cpu.lax s := rfl
theorem exec_ldyZp (z : Byte) (s : State) :
    exec (.ldyZp z) s = readOp (.zp z) 3 false Cpu.loadY s := rfl
theorem exec_ldaZp (z : Byte) (s : State) :
    exec (.ldaZp z) s = readOp (.zp z) 3 false Cpu.loadA s := rfl
theorem exec_ldxZp (z : Byte) (s : State) :
    exec (.ldxZp z) s = readOp (.zp z) 3 false Cpu.loadX s := rfl
theorem exec_laxZp (z : Byte) (s : State) :
    exec (.laxZp z) s = readOp (.zp z) 3 false Cpu.lax s := rfl
theorem exec_tay (s : State) :
    exec .tay s = impliedOp 2 (fun c => c.loadY c.a) s := rfl
theorem exec_ldaImm (v : Byte) (s : State) :
    exec (.ldaImm v) s = readOp (.imm v) 2 false Cpu.loadA s := rfl
theorem exec_tax (s : State) :
    exec .tax s = impliedOp 2 (fun c => c.loadX c.a) s := rfl
theorem exec_lxaImm (v : Byte) (s : State) :
    exec (.lxaImm v) s = readOp (.imm v) 2 false (Cpu.lxa s.cfg.lxaMagic) s := rfl
theorem exec_ldyAbs (a : Addr) (s : State) :
    exec (.ldyAbs a) s = readOp (.abs a) 4 false Cpu.loadY s := rfl
theorem exec_ldaAbs (a : Addr) (s : State) :
    exec (.ldaAbs a) s = readOp (.abs a) 4 false Cpu.loadA s := rfl
theorem exec_ldxAbs (a : Addr) (s : State) :
    exec (.ldxAbs a) s = readOp (.abs a) 4 false Cpu.loadX s := rfl
theorem exec_laxAbs (a : Addr) (s : State) :
    exec (.laxAbs a) s = readOp (.abs a) 4 false Cpu.lax s := rfl
theorem exec_bcs (off : Byte) (s : State) :
    exec (.bcs off) s = branchOp off (fun c => c.c) s := rfl
theorem exec_ldaIzy (z : Byte) (s : State) :
    exec (.ldaIzy z) s = readOp (.izy z) 5 true Cpu.loadA s := rfl
theorem exec_laxIzy (z : Byte) (s : State) :
    exec (.laxIzy z) s = readOp (.izy z) 5 true Cpu.lax s := rfl
theorem exec_ldyZpx (z : Byte) (s : State) :
    exec (.ldyZpx z) s = readOp (.zpx z) 4 false Cpu.loadY s := rfl
theorem exec_ldaZpx (z : Byte) (s : State) :
    exec (.ldaZpx z) s = readOp (.zpx z) 4 false Cpu.loadA s := rfl
theorem exec_ldxZpy (z : Byte) (s : State) :
    exec (.ldxZpy z) s = readOp (.zpy z) 4 false Cpu.loadX s := rfl
theorem exec_laxZpy (z : Byte) (s : State) :
    exec (.laxZpy z) s = readOp (.zpy z) 4 false Cpu.lax s := rfl
theorem exec_clv (s : State) :
    exec .clv s = impliedOp 2 (fun c => { c with v := false }) s := rfl
theorem exec_ldaAby (a : Addr) (s : State) :
    exec (.ldaAby a) s = readOp (.aby a) 4 true Cpu.loadA s := rfl
theorem exec_tsx (s : State) :
    exec .tsx s = impliedOp 2 (fun c => c.loadX c.s) s := rfl
theorem exec_lasAby (a : Addr) (s : State) :
    exec (.lasAby a) s = readOp (.aby a) 4 true Cpu.las s := rfl
theorem exec_ldyAbx (a : Addr) (s : State) :
    exec (.ldyAbx a) s = readOp (.abx a) 4 true Cpu.loadY s := rfl
theorem exec_ldaAbx (a : Addr) (s : State) :
    exec (.ldaAbx a) s = readOp (.abx a) 4 true Cpu.loadA s := rfl
theorem exec_ldxAby (a : Addr) (s : State) :
    exec (.ldxAby a) s = readOp (.aby a) 4 true Cpu.loadX s := rfl
theorem exec_laxAby (a : Addr) (s : State) :
    exec (.laxAby a) s = readOp (.aby a) 4 true Cpu.lax s := rfl
theorem exec_cpyImm (v : Byte) (s : State) :
    exec (.cpyImm v) s = readOp (.imm v) 2 false Cpu.cpy s := rfl
theorem exec_cmpIzx (z : Byte) (s : State) :
    exec (.cmpIzx z) s = readOp (.izx z) 6 false Cpu.cmp s := rfl
theorem exec_dcpIzx (z : Byte) (s : State) :
    exec (.dcpIzx z) s = rmwOp (.izx z) 8 Cpu.decByte Cpu.cmp s := rfl
theorem exec_cpyZp (z : Byte) (s : State) :
    exec (.cpyZp z) s = readOp (.zp z) 3 false Cpu.cpy s := rfl
theorem exec_cmpZp (z : Byte) (s : State) :
    exec (.cmpZp z) s = readOp (.zp z) 3 false Cpu.cmp s := rfl
theorem exec_decZp (z : Byte) (s : State) :
    exec (.decZp z) s = rmwOp (.zp z) 5 Cpu.decByte Cpu.setZN s := rfl
theorem exec_dcpZp (z : Byte) (s : State) :
    exec (.dcpZp z) s = rmwOp (.zp z) 5 Cpu.decByte Cpu.cmp s := rfl
theorem exec_iny (s : State) :
    exec .iny s = impliedOp 2 (fun c => c.loadY (c.y + 1#8)) s := rfl
theorem exec_cmpImm (v : Byte) (s : State) :
    exec (.cmpImm v) s = readOp (.imm v) 2 false Cpu.cmp s := rfl
theorem exec_dex (s : State) :
    exec .dex s = impliedOp 2 (fun c => c.loadX (c.x - 1#8)) s := rfl
theorem exec_axsImm (v : Byte) (s : State) :
    exec (.axsImm v) s = readOp (.imm v) 2 false Cpu.axs s := rfl
theorem exec_cpyAbs (a : Addr) (s : State) :
    exec (.cpyAbs a) s = readOp (.abs a) 4 false Cpu.cpy s := rfl
theorem exec_cmpAbs (a : Addr) (s : State) :
    exec (.cmpAbs a) s = readOp (.abs a) 4 false Cpu.cmp s := rfl
theorem exec_decAbs (a : Addr) (s : State) :
    exec (.decAbs a) s = rmwOp (.abs a) 6 Cpu.decByte Cpu.setZN s := rfl
theorem exec_dcpAbs (a : Addr) (s : State) :
    exec (.dcpAbs a) s = rmwOp (.abs a) 6 Cpu.decByte Cpu.cmp s := rfl
theorem exec_bne (off : Byte) (s : State) :
    exec (.bne off) s = branchOp off (fun c => !c.z) s := rfl
theorem exec_cmpIzy (z : Byte) (s : State) :
    exec (.cmpIzy z) s = readOp (.izy z) 5 true Cpu.cmp s := rfl
theorem exec_dcpIzy (z : Byte) (s : State) :
    exec (.dcpIzy z) s = rmwOp (.izy z) 8 Cpu.decByte Cpu.cmp s := rfl
theorem exec_cmpZpx (z : Byte) (s : State) :
    exec (.cmpZpx z) s = readOp (.zpx z) 4 false Cpu.cmp s := rfl
theorem exec_decZpx (z : Byte) (s : State) :
    exec (.decZpx z) s = rmwOp (.zpx z) 6 Cpu.decByte Cpu.setZN s := rfl
theorem exec_dcpZpx (z : Byte) (s : State) :
    exec (.dcpZpx z) s = rmwOp (.zpx z) 6 Cpu.decByte Cpu.cmp s := rfl
theorem exec_cld (s : State) :
    exec .cld s = impliedOp 2 (fun c => { c with d := false }) s := rfl
theorem exec_cmpAby (a : Addr) (s : State) :
    exec (.cmpAby a) s = readOp (.aby a) 4 true Cpu.cmp s := rfl
theorem exec_dcpAby (a : Addr) (s : State) :
    exec (.dcpAby a) s = rmwOp (.aby a) 7 Cpu.decByte Cpu.cmp s := rfl
theorem exec_cmpAbx (a : Addr) (s : State) :
    exec (.cmpAbx a) s = readOp (.abx a) 4 true Cpu.cmp s := rfl
theorem exec_decAbx (a : Addr) (s : State) :
    exec (.decAbx a) s = rmwOp (.abx a) 7 Cpu.decByte Cpu.setZN s := rfl
theorem exec_dcpAbx (a : Addr) (s : State) :
    exec (.dcpAbx a) s = rmwOp (.abx a) 7 Cpu.decByte Cpu.cmp s := rfl
theorem exec_cpxImm (v : Byte) (s : State) :
    exec (.cpxImm v) s = readOp (.imm v) 2 false Cpu.cpx s := rfl
theorem exec_sbcIzx (z : Byte) (s : State) :
    exec (.sbcIzx z) s = readOp (.izx z) 6 false Cpu.sbc s := rfl
theorem exec_iscIzx (z : Byte) (s : State) :
    exec (.iscIzx z) s = rmwOp (.izx z) 8 Cpu.incByte Cpu.sbc s := rfl
theorem exec_cpxZp (z : Byte) (s : State) :
    exec (.cpxZp z) s = readOp (.zp z) 3 false Cpu.cpx s := rfl
theorem exec_sbcZp (z : Byte) (s : State) :
    exec (.sbcZp z) s = readOp (.zp z) 3 false Cpu.sbc s := rfl
theorem exec_incZp (z : Byte) (s : State) :
    exec (.incZp z) s = rmwOp (.zp z) 5 Cpu.incByte Cpu.setZN s := rfl
theorem exec_iscZp (z : Byte) (s : State) :
    exec (.iscZp z) s = rmwOp (.zp z) 5 Cpu.incByte Cpu.sbc s := rfl
theorem exec_inx (s : State) :
    exec .inx s = impliedOp 2 (fun c => c.loadX (c.x + 1#8)) s := rfl
theorem exec_sbcImm (v : Byte) (s : State) :
    exec (.sbcImm v) s = readOp (.imm v) 2 false Cpu.sbc s := rfl
theorem exec_nop (s : State) :
    exec .nop s = impliedOp 2 (fun c => c) s := rfl
theorem exec_usbcImm (v : Byte) (s : State) :
    exec (.usbcImm v) s = readOp (.imm v) 2 false Cpu.sbc s := rfl
theorem exec_cpxAbs (a : Addr) (s : State) :
    exec (.cpxAbs a) s = readOp (.abs a) 4 false Cpu.cpx s := rfl
theorem exec_sbcAbs (a : Addr) (s : State) :
    exec (.sbcAbs a) s = readOp (.abs a) 4 false Cpu.sbc s := rfl
theorem exec_incAbs (a : Addr) (s : State) :
    exec (.incAbs a) s = rmwOp (.abs a) 6 Cpu.incByte Cpu.setZN s := rfl
theorem exec_iscAbs (a : Addr) (s : State) :
    exec (.iscAbs a) s = rmwOp (.abs a) 6 Cpu.incByte Cpu.sbc s := rfl
theorem exec_beq (off : Byte) (s : State) :
    exec (.beq off) s = branchOp off (fun c => c.z) s := rfl
theorem exec_sbcIzy (z : Byte) (s : State) :
    exec (.sbcIzy z) s = readOp (.izy z) 5 true Cpu.sbc s := rfl
theorem exec_iscIzy (z : Byte) (s : State) :
    exec (.iscIzy z) s = rmwOp (.izy z) 8 Cpu.incByte Cpu.sbc s := rfl
theorem exec_sbcZpx (z : Byte) (s : State) :
    exec (.sbcZpx z) s = readOp (.zpx z) 4 false Cpu.sbc s := rfl
theorem exec_incZpx (z : Byte) (s : State) :
    exec (.incZpx z) s = rmwOp (.zpx z) 6 Cpu.incByte Cpu.setZN s := rfl
theorem exec_iscZpx (z : Byte) (s : State) :
    exec (.iscZpx z) s = rmwOp (.zpx z) 6 Cpu.incByte Cpu.sbc s := rfl
theorem exec_sed (s : State) :
    exec .sed s = impliedOp 2 (fun c => { c with d := true }) s := rfl
theorem exec_sbcAby (a : Addr) (s : State) :
    exec (.sbcAby a) s = readOp (.aby a) 4 true Cpu.sbc s := rfl
theorem exec_iscAby (a : Addr) (s : State) :
    exec (.iscAby a) s = rmwOp (.aby a) 7 Cpu.incByte Cpu.sbc s := rfl
theorem exec_sbcAbx (a : Addr) (s : State) :
    exec (.sbcAbx a) s = readOp (.abx a) 4 true Cpu.sbc s := rfl
theorem exec_incAbx (a : Addr) (s : State) :
    exec (.incAbx a) s = rmwOp (.abx a) 7 Cpu.incByte Cpu.setZN s := rfl
theorem exec_iscAbx (a : Addr) (s : State) :
    exec (.iscAbx a) s = rmwOp (.abx a) 7 Cpu.incByte Cpu.sbc s := rfl

end Sys2Proof.Machine
end

