-- ==== Sys2Proof/Laws/PerInstr.lean ====
section
/-! SUPPORT. The family EncodeShape, one lemma for each constructor of `Instr`: the bytes `encode` writes for the
instruction start with its opcode byte and are as many as that byte and the instruction's mode announce. -/
namespace Sys2Proof.Laws.EncodeShape

/-- What is said of an instruction: its encoding starts with its opcode byte and has the length that byte announces, which
is the length of the instruction's mode (R131). -/
def Statement (i : Instr) : Prop :=
  (encode i).head? = some i.opcode ∧ (encode i).length = opLength i.opcode ∧ opLength i.opcode = i.length

theorem of_opcode {i : Instr} {op : Byte} {n : Nat} (ho : i.opcode = op) (hn : opLength op = n)
    (he : (encode i).length = n) (hl : i.length = n) : Statement i := by
  refine ⟨rfl, ?_, ?_⟩ <;> rw [ho, hn]
  · exact he
  · exact hl.symm

/-- A word is its high byte above its low byte. -/
theorem word_hi_lo (a : Addr) : Machine.word (Machine.hi a) (Machine.lo a) = a := by
  unfold Machine.word Machine.hi Machine.lo
  ext k hk
  simp only [BitVec.getElem_append]
  split
  · simp [BitVec.getLsbD_eq_getElem, hk]
  · rename_i h
    simp only [BitVec.getElem_setWidth, BitVec.getLsbD_ushiftRight]
    rw [show 8 + (k - 8) = k by omega, BitVec.getLsbD_eq_getElem]

theorem brk : Statement (.brk) :=
  of_opcode (op := 0x00#8) (n := 1) rfl rfl rfl rfl
theorem oraIzx (z : Byte) : Statement (.oraIzx z) :=
  of_opcode (op := 0x01#8) (n := 2) rfl rfl rfl rfl
theorem jam (k : JamByte) : Statement (.jam k) := by
  cases k with
  | b02 => exact of_opcode (op := 0x02#8) (n := 1) rfl rfl rfl rfl
  | b12 => exact of_opcode (op := 0x12#8) (n := 1) rfl rfl rfl rfl
  | b22 => exact of_opcode (op := 0x22#8) (n := 1) rfl rfl rfl rfl
  | b32 => exact of_opcode (op := 0x32#8) (n := 1) rfl rfl rfl rfl
  | b42 => exact of_opcode (op := 0x42#8) (n := 1) rfl rfl rfl rfl
  | b52 => exact of_opcode (op := 0x52#8) (n := 1) rfl rfl rfl rfl
  | b62 => exact of_opcode (op := 0x62#8) (n := 1) rfl rfl rfl rfl
  | b72 => exact of_opcode (op := 0x72#8) (n := 1) rfl rfl rfl rfl
  | b92 => exact of_opcode (op := 0x92#8) (n := 1) rfl rfl rfl rfl
  | bB2 => exact of_opcode (op := 0xB2#8) (n := 1) rfl rfl rfl rfl
  | bD2 => exact of_opcode (op := 0xD2#8) (n := 1) rfl rfl rfl rfl
  | bF2 => exact of_opcode (op := 0xF2#8) (n := 1) rfl rfl rfl rfl
theorem sloIzx (z : Byte) : Statement (.sloIzx z) :=
  of_opcode (op := 0x03#8) (n := 2) rfl rfl rfl rfl
theorem nopZp (k : NopZpByte) (z : Byte) : Statement (.nopZp k z) := by
  cases k with
  | b04 => exact of_opcode (op := 0x04#8) (n := 2) rfl rfl rfl rfl
  | b44 => exact of_opcode (op := 0x44#8) (n := 2) rfl rfl rfl rfl
  | b64 => exact of_opcode (op := 0x64#8) (n := 2) rfl rfl rfl rfl
theorem oraZp (z : Byte) : Statement (.oraZp z) :=
  of_opcode (op := 0x05#8) (n := 2) rfl rfl rfl rfl
theorem aslZp (z : Byte) : Statement (.aslZp z) :=
  of_opcode (op := 0x06#8) (n := 2) rfl rfl rfl rfl
theorem sloZp (z : Byte) : Statement (.sloZp z) :=
  of_opcode (op := 0x07#8) (n := 2) rfl rfl rfl rfl
theorem php : Statement (.php) :=
  of_opcode (op := 0x08#8) (n := 1) rfl rfl rfl rfl
theorem oraImm (v : Byte) : Statement (.oraImm v) :=
  of_opcode (op := 0x09#8) (n := 2) rfl rfl rfl rfl
theorem aslAcc : Statement (.aslAcc) :=
  of_opcode (op := 0x0A#8) (n := 1) rfl rfl rfl rfl
theorem ancImm (k : AncImmByte) (v : Byte) : Statement (.ancImm k v) := by
  cases k with
  | b0B => exact of_opcode (op := 0x0B#8) (n := 2) rfl rfl rfl rfl
  | b2B => exact of_opcode (op := 0x2B#8) (n := 2) rfl rfl rfl rfl
theorem nopAbs (a : Addr) : Statement (.nopAbs a) :=
  of_opcode (op := 0x0C#8) (n := 3) rfl rfl rfl rfl
theorem oraAbs (a : Addr) : Statement (.oraAbs a) :=
  of_opcode (op := 0x0D#8) (n := 3) rfl rfl rfl rfl
theorem aslAbs (a : Addr) : Statement (.aslAbs a) :=
  of_opcode (op := 0x0E#8) (n := 3) rfl rfl rfl rfl
theorem sloAbs (a : Addr) : Statement (.sloAbs a) :=
  of_opcode (op := 0x0F#8) (n := 3) rfl rfl rfl rfl
theorem bpl (off : Byte) : Statement (.bpl off) :=
  of_opcode (op := 0x10#8) (n := 2) rfl rfl rfl rfl
theorem oraIzy (z : Byte) : Statement (.oraIzy z) :=
  of_opcode (op := 0x11#8) (n := 2) rfl rfl rfl rfl
theorem sloIzy (z : Byte) : Statement (.sloIzy z) :=
  of_opcode (op := 0x13#8) (n := 2) rfl rfl rfl rfl
theorem nopZpx (k : NopZpxByte) (z : Byte) : Statement (.nopZpx k z) := by
  cases k with
  | b14 => exact of_opcode (op := 0x14#8) (n := 2) rfl rfl rfl rfl
  | b34 => exact of_opcode (op := 0x34#8) (n := 2) rfl rfl rfl rfl
  | b54 => exact of_opcode (op := 0x54#8) (n := 2) rfl rfl rfl rfl
  | b74 => exact of_opcode (op := 0x74#8) (n := 2) rfl rfl rfl rfl
  | bD4 => exact of_opcode (op := 0xD4#8) (n := 2) rfl rfl rfl rfl
  | bF4 => exact of_opcode (op := 0xF4#8) (n := 2) rfl rfl rfl rfl
theorem oraZpx (z : Byte) : Statement (.oraZpx z) :=
  of_opcode (op := 0x15#8) (n := 2) rfl rfl rfl rfl
theorem aslZpx (z : Byte) : Statement (.aslZpx z) :=
  of_opcode (op := 0x16#8) (n := 2) rfl rfl rfl rfl
theorem sloZpx (z : Byte) : Statement (.sloZpx z) :=
  of_opcode (op := 0x17#8) (n := 2) rfl rfl rfl rfl
theorem clc : Statement (.clc) :=
  of_opcode (op := 0x18#8) (n := 1) rfl rfl rfl rfl
theorem oraAby (a : Addr) : Statement (.oraAby a) :=
  of_opcode (op := 0x19#8) (n := 3) rfl rfl rfl rfl
theorem nopImp (k : NopImpByte) : Statement (.nopImp k) := by
  cases k with
  | b1A => exact of_opcode (op := 0x1A#8) (n := 1) rfl rfl rfl rfl
  | b3A => exact of_opcode (op := 0x3A#8) (n := 1) rfl rfl rfl rfl
  | b5A => exact of_opcode (op := 0x5A#8) (n := 1) rfl rfl rfl rfl
  | b7A => exact of_opcode (op := 0x7A#8) (n := 1) rfl rfl rfl rfl
  | bDA => exact of_opcode (op := 0xDA#8) (n := 1) rfl rfl rfl rfl
  | bFA => exact of_opcode (op := 0xFA#8) (n := 1) rfl rfl rfl rfl
theorem sloAby (a : Addr) : Statement (.sloAby a) :=
  of_opcode (op := 0x1B#8) (n := 3) rfl rfl rfl rfl
theorem nopAbx (k : NopAbxByte) (a : Addr) : Statement (.nopAbx k a) := by
  cases k with
  | b1C => exact of_opcode (op := 0x1C#8) (n := 3) rfl rfl rfl rfl
  | b3C => exact of_opcode (op := 0x3C#8) (n := 3) rfl rfl rfl rfl
  | b5C => exact of_opcode (op := 0x5C#8) (n := 3) rfl rfl rfl rfl
  | b7C => exact of_opcode (op := 0x7C#8) (n := 3) rfl rfl rfl rfl
  | bDC => exact of_opcode (op := 0xDC#8) (n := 3) rfl rfl rfl rfl
  | bFC => exact of_opcode (op := 0xFC#8) (n := 3) rfl rfl rfl rfl
theorem oraAbx (a : Addr) : Statement (.oraAbx a) :=
  of_opcode (op := 0x1D#8) (n := 3) rfl rfl rfl rfl
theorem aslAbx (a : Addr) : Statement (.aslAbx a) :=
  of_opcode (op := 0x1E#8) (n := 3) rfl rfl rfl rfl
theorem sloAbx (a : Addr) : Statement (.sloAbx a) :=
  of_opcode (op := 0x1F#8) (n := 3) rfl rfl rfl rfl
theorem jsrAbs (a : Addr) : Statement (.jsrAbs a) :=
  of_opcode (op := 0x20#8) (n := 3) rfl rfl rfl rfl
theorem andIzx (z : Byte) : Statement (.andIzx z) :=
  of_opcode (op := 0x21#8) (n := 2) rfl rfl rfl rfl
theorem rlaIzx (z : Byte) : Statement (.rlaIzx z) :=
  of_opcode (op := 0x23#8) (n := 2) rfl rfl rfl rfl
theorem bitZp (z : Byte) : Statement (.bitZp z) :=
  of_opcode (op := 0x24#8) (n := 2) rfl rfl rfl rfl
theorem andZp (z : Byte) : Statement (.andZp z) :=
  of_opcode (op := 0x25#8) (n := 2) rfl rfl rfl rfl
theorem rolZp (z : Byte) : Statement (.rolZp z) :=
  of_opcode (op := 0x26#8) (n := 2) rfl rfl rfl rfl
theorem rlaZp (z : Byte) : Statement (.rlaZp z) :=
  of_opcode (op := 0x27#8) (n := 2) rfl rfl rfl rfl
theorem plp : Statement (.plp) :=
  of_opcode (op := 0x28#8) (n := 1) rfl rfl rfl rfl
theorem andImm (v : Byte) : Statement (.andImm v) :=
  of_opcode (op := 0x29#8) (n := 2) rfl rfl rfl rfl
theorem rolAcc : Statement (.rolAcc) :=
  of_opcode (op := 0x2A#8) (n := 1) rfl rfl rfl rfl
theorem bitAbs (a : Addr) : Statement (.bitAbs a) :=
  of_opcode (op := 0x2C#8) (n := 3) rfl rfl rfl rfl
theorem andAbs (a : Addr) : Statement (.andAbs a) :=
  of_opcode (op := 0x2D#8) (n := 3) rfl rfl rfl rfl
theorem rolAbs (a : Addr) : Statement (.rolAbs a) :=
  of_opcode (op := 0x2E#8) (n := 3) rfl rfl rfl rfl
theorem rlaAbs (a : Addr) : Statement (.rlaAbs a) :=
  of_opcode (op := 0x2F#8) (n := 3) rfl rfl rfl rfl
theorem bmi (off : Byte) : Statement (.bmi off) :=
  of_opcode (op := 0x30#8) (n := 2) rfl rfl rfl rfl
theorem andIzy (z : Byte) : Statement (.andIzy z) :=
  of_opcode (op := 0x31#8) (n := 2) rfl rfl rfl rfl
theorem rlaIzy (z : Byte) : Statement (.rlaIzy z) :=
  of_opcode (op := 0x33#8) (n := 2) rfl rfl rfl rfl
theorem andZpx (z : Byte) : Statement (.andZpx z) :=
  of_opcode (op := 0x35#8) (n := 2) rfl rfl rfl rfl
theorem rolZpx (z : Byte) : Statement (.rolZpx z) :=
  of_opcode (op := 0x36#8) (n := 2) rfl rfl rfl rfl
theorem rlaZpx (z : Byte) : Statement (.rlaZpx z) :=
  of_opcode (op := 0x37#8) (n := 2) rfl rfl rfl rfl
theorem sec : Statement (.sec) :=
  of_opcode (op := 0x38#8) (n := 1) rfl rfl rfl rfl
theorem andAby (a : Addr) : Statement (.andAby a) :=
  of_opcode (op := 0x39#8) (n := 3) rfl rfl rfl rfl
theorem rlaAby (a : Addr) : Statement (.rlaAby a) :=
  of_opcode (op := 0x3B#8) (n := 3) rfl rfl rfl rfl
theorem andAbx (a : Addr) : Statement (.andAbx a) :=
  of_opcode (op := 0x3D#8) (n := 3) rfl rfl rfl rfl
theorem rolAbx (a : Addr) : Statement (.rolAbx a) :=
  of_opcode (op := 0x3E#8) (n := 3) rfl rfl rfl rfl
theorem rlaAbx (a : Addr) : Statement (.rlaAbx a) :=
  of_opcode (op := 0x3F#8) (n := 3) rfl rfl rfl rfl
theorem rti : Statement (.rti) :=
  of_opcode (op := 0x40#8) (n := 1) rfl rfl rfl rfl
theorem eorIzx (z : Byte) : Statement (.eorIzx z) :=
  of_opcode (op := 0x41#8) (n := 2) rfl rfl rfl rfl
theorem sreIzx (z : Byte) : Statement (.sreIzx z) :=
  of_opcode (op := 0x43#8) (n := 2) rfl rfl rfl rfl
theorem eorZp (z : Byte) : Statement (.eorZp z) :=
  of_opcode (op := 0x45#8) (n := 2) rfl rfl rfl rfl
theorem lsrZp (z : Byte) : Statement (.lsrZp z) :=
  of_opcode (op := 0x46#8) (n := 2) rfl rfl rfl rfl
theorem sreZp (z : Byte) : Statement (.sreZp z) :=
  of_opcode (op := 0x47#8) (n := 2) rfl rfl rfl rfl
theorem pha : Statement (.pha) :=
  of_opcode (op := 0x48#8) (n := 1) rfl rfl rfl rfl
theorem eorImm (v : Byte) : Statement (.eorImm v) :=
  of_opcode (op := 0x49#8) (n := 2) rfl rfl rfl rfl
theorem lsrAcc : Statement (.lsrAcc) :=
  of_opcode (op := 0x4A#8) (n := 1) rfl rfl rfl rfl
theorem alrImm (v : Byte) : Statement (.alrImm v) :=
  of_opcode (op := 0x4B#8) (n := 2) rfl rfl rfl rfl
theorem jmpAbs (a : Addr) : Statement (.jmpAbs a) :=
  of_opcode (op := 0x4C#8) (n := 3) rfl rfl rfl rfl
theorem eorAbs (a : Addr) : Statement (.eorAbs a) :=
  of_opcode (op := 0x4D#8) (n := 3) rfl rfl rfl rfl
theorem lsrAbs (a : Addr) : Statement (.lsrAbs a) :=
  of_opcode (op := 0x4E#8) (n := 3) rfl rfl rfl rfl
theorem sreAbs (a : Addr) : Statement (.sreAbs a) :=
  of_opcode (op := 0x4F#8) (n := 3) rfl rfl rfl rfl
theorem bvc (off : Byte) : Statement (.bvc off) :=
  of_opcode (op := 0x50#8) (n := 2) rfl rfl rfl rfl
theorem eorIzy (z : Byte) : Statement (.eorIzy z) :=
  of_opcode (op := 0x51#8) (n := 2) rfl rfl rfl rfl
theorem sreIzy (z : Byte) : Statement (.sreIzy z) :=
  of_opcode (op := 0x53#8) (n := 2) rfl rfl rfl rfl
theorem eorZpx (z : Byte) : Statement (.eorZpx z) :=
  of_opcode (op := 0x55#8) (n := 2) rfl rfl rfl rfl
theorem lsrZpx (z : Byte) : Statement (.lsrZpx z) :=
  of_opcode (op := 0x56#8) (n := 2) rfl rfl rfl rfl
theorem sreZpx (z : Byte) : Statement (.sreZpx z) :=
  of_opcode (op := 0x57#8) (n := 2) rfl rfl rfl rfl
theorem cli : Statement (.cli) :=
  of_opcode (op := 0x58#8) (n := 1) rfl rfl rfl rfl
theorem eorAby (a : Addr) : Statement (.eorAby a) :=
  of_opcode (op := 0x59#8) (n := 3) rfl rfl rfl rfl
theorem sreAby (a : Addr) : Statement (.sreAby a) :=
  of_opcode (op := 0x5B#8) (n := 3) rfl rfl rfl rfl
theorem eorAbx (a : Addr) : Statement (.eorAbx a) :=
  of_opcode (op := 0x5D#8) (n := 3) rfl rfl rfl rfl
theorem lsrAbx (a : Addr) : Statement (.lsrAbx a) :=
  of_opcode (op := 0x5E#8) (n := 3) rfl rfl rfl rfl
theorem sreAbx (a : Addr) : Statement (.sreAbx a) :=
  of_opcode (op := 0x5F#8) (n := 3) rfl rfl rfl rfl
theorem rts : Statement (.rts) :=
  of_opcode (op := 0x60#8) (n := 1) rfl rfl rfl rfl
theorem adcIzx (z : Byte) : Statement (.adcIzx z) :=
  of_opcode (op := 0x61#8) (n := 2) rfl rfl rfl rfl
theorem rraIzx (z : Byte) : Statement (.rraIzx z) :=
  of_opcode (op := 0x63#8) (n := 2) rfl rfl rfl rfl
theorem adcZp (z : Byte) : Statement (.adcZp z) :=
  of_opcode (op := 0x65#8) (n := 2) rfl rfl rfl rfl
theorem rorZp (z : Byte) : Statement (.rorZp z) :=
  of_opcode (op := 0x66#8) (n := 2) rfl rfl rfl rfl
theorem rraZp (z : Byte) : Statement (.rraZp z) :=
  of_opcode (op := 0x67#8) (n := 2) rfl rfl rfl rfl
theorem pla : Statement (.pla) :=
  of_opcode (op := 0x68#8) (n := 1) rfl rfl rfl rfl
theorem adcImm (v : Byte) : Statement (.adcImm v) :=
  of_opcode (op := 0x69#8) (n := 2) rfl rfl rfl rfl
theorem rorAcc : Statement (.rorAcc) :=
  of_opcode (op := 0x6A#8) (n := 1) rfl rfl rfl rfl
theorem arrImm (v : Byte) : Statement (.arrImm v) :=
  of_opcode (op := 0x6B#8) (n := 2) rfl rfl rfl rfl
theorem jmpInd (a : Addr) : Statement (.jmpInd a) :=
  of_opcode (op := 0x6C#8) (n := 3) rfl rfl rfl rfl
theorem adcAbs (a : Addr) : Statement (.adcAbs a) :=
  of_opcode (op := 0x6D#8) (n := 3) rfl rfl rfl rfl
theorem rorAbs (a : Addr) : Statement (.rorAbs a) :=
  of_opcode (op := 0x6E#8) (n := 3) rfl rfl rfl rfl
theorem rraAbs (a : Addr) : Statement (.rraAbs a) :=
  of_opcode (op := 0x6F#8) (n := 3) rfl rfl rfl rfl
theorem bvs (off : Byte) : Statement (.bvs off) :=
  of_opcode (op := 0x70#8) (n := 2) rfl rfl rfl rfl
theorem adcIzy (z : Byte) : Statement (.adcIzy z) :=
  of_opcode (op := 0x71#8) (n := 2) rfl rfl rfl rfl
theorem rraIzy (z : Byte) : Statement (.rraIzy z) :=
  of_opcode (op := 0x73#8) (n := 2) rfl rfl rfl rfl
theorem adcZpx (z : Byte) : Statement (.adcZpx z) :=
  of_opcode (op := 0x75#8) (n := 2) rfl rfl rfl rfl
theorem rorZpx (z : Byte) : Statement (.rorZpx z) :=
  of_opcode (op := 0x76#8) (n := 2) rfl rfl rfl rfl
theorem rraZpx (z : Byte) : Statement (.rraZpx z) :=
  of_opcode (op := 0x77#8) (n := 2) rfl rfl rfl rfl
theorem sei : Statement (.sei) :=
  of_opcode (op := 0x78#8) (n := 1) rfl rfl rfl rfl
theorem adcAby (a : Addr) : Statement (.adcAby a) :=
  of_opcode (op := 0x79#8) (n := 3) rfl rfl rfl rfl
theorem rraAby (a : Addr) : Statement (.rraAby a) :=
  of_opcode (op := 0x7B#8) (n := 3) rfl rfl rfl rfl
theorem adcAbx (a : Addr) : Statement (.adcAbx a) :=
  of_opcode (op := 0x7D#8) (n := 3) rfl rfl rfl rfl
theorem rorAbx (a : Addr) : Statement (.rorAbx a) :=
  of_opcode (op := 0x7E#8) (n := 3) rfl rfl rfl rfl
theorem rraAbx (a : Addr) : Statement (.rraAbx a) :=
  of_opcode (op := 0x7F#8) (n := 3) rfl rfl rfl rfl
theorem nopImm (k : NopImmByte) (v : Byte) : Statement (.nopImm k v) := by
  cases k with
  | b80 => exact of_opcode (op := 0x80#8) (n := 2) rfl rfl rfl rfl
  | b82 => exact of_opcode (op := 0x82#8) (n := 2) rfl rfl rfl rfl
  | b89 => exact of_opcode (op := 0x89#8) (n := 2) rfl rfl rfl rfl
  | bC2 => exact of_opcode (op := 0xC2#8) (n := 2) rfl rfl rfl rfl
  | bE2 => exact of_opcode (op := 0xE2#8) (n := 2) rfl rfl rfl rfl
theorem staIzx (z : Byte) : Statement (.staIzx z) :=
  of_opcode (op := 0x81#8) (n := 2) rfl rfl rfl rfl
theorem saxIzx (z : Byte) : Statement (.saxIzx z) :=
  of_opcode (op := 0x83#8) (n := 2) rfl rfl rfl rfl
theorem styZp (z : Byte) : Statement (.styZp z) :=
  of_opcode (op := 0x84#8) (n := 2) rfl rfl rfl rfl
theorem staZp (z : Byte) : Statement (.staZp z) :=
  of_opcode (op := 0x85#8) (n := 2) rfl rfl rfl rfl
theorem stxZp (z : Byte) : Statement (.stxZp z) :=
  of_opcode (op := 0x86#8) (n := 2) rfl rfl rfl rfl
theorem saxZp (z : Byte) : Statement (.saxZp z) :=
  of_opcode (op := 0x87#8) (n := 2) rfl rfl rfl rfl
theorem dey : Statement (.dey) :=
  of_opcode (op := 0x88#8) (n := 1) rfl rfl rfl rfl
theorem txa : Statement (.txa) :=
  of_opcode (op := 0x8A#8) (n := 1) rfl rfl rfl rfl
theorem xaaImm (v : Byte) : Statement (.xaaImm v) :=
  of_opcode (op := 0x8B#8) (n := 2) rfl rfl rfl rfl
theorem styAbs (a : Addr) : Statement (.styAbs a) :=
  of_opcode (op := 0x8C#8) (n := 3) rfl rfl rfl rfl
theorem staAbs (a : Addr) : Statement (.staAbs a) :=
  of_opcode (op := 0x8D#8) (n := 3) rfl rfl rfl rfl
theorem stxAbs (a : Addr) : Statement (.stxAbs a) :=
  of_opcode (op := 0x8E#8) (n := 3) rfl rfl rfl rfl
theorem saxAbs (a : Addr) : Statement (.saxAbs a) :=
  of_opcode (op := 0x8F#8) (n := 3) rfl rfl rfl rfl
theorem bcc (off : Byte) : Statement (.bcc off) :=
  of_opcode (op := 0x90#8) (n := 2) rfl rfl rfl rfl
theorem staIzy (z : Byte) : Statement (.staIzy z) :=
  of_opcode (op := 0x91#8) (n := 2) rfl rfl rfl rfl
theorem shaIzy (z : Byte) : Statement (.shaIzy z) :=
  of_opcode (op := 0x93#8) (n := 2) rfl rfl rfl rfl
theorem styZpx (z : Byte) : Statement (.styZpx z) :=
  of_opcode (op := 0x94#8) (n := 2) rfl rfl rfl rfl
theorem staZpx (z : Byte) : Statement (.staZpx z) :=
  of_opcode (op := 0x95#8) (n := 2) rfl rfl rfl rfl
theorem stxZpy (z : Byte) : Statement (.stxZpy z) :=
  of_opcode (op := 0x96#8) (n := 2) rfl rfl rfl rfl
theorem saxZpy (z : Byte) : Statement (.saxZpy z) :=
  of_opcode (op := 0x97#8) (n := 2) rfl rfl rfl rfl
theorem tya : Statement (.tya) :=
  of_opcode (op := 0x98#8) (n := 1) rfl rfl rfl rfl
theorem staAby (a : Addr) : Statement (.staAby a) :=
  of_opcode (op := 0x99#8) (n := 3) rfl rfl rfl rfl
theorem txs : Statement (.txs) :=
  of_opcode (op := 0x9A#8) (n := 1) rfl rfl rfl rfl
theorem tasAby (a : Addr) : Statement (.tasAby a) :=
  of_opcode (op := 0x9B#8) (n := 3) rfl rfl rfl rfl
theorem shyAbx (a : Addr) : Statement (.shyAbx a) :=
  of_opcode (op := 0x9C#8) (n := 3) rfl rfl rfl rfl
theorem staAbx (a : Addr) : Statement (.staAbx a) :=
  of_opcode (op := 0x9D#8) (n := 3) rfl rfl rfl rfl
theorem shxAby (a : Addr) : Statement (.shxAby a) :=
  of_opcode (op := 0x9E#8) (n := 3) rfl rfl rfl rfl
theorem shaAby (a : Addr) : Statement (.shaAby a) :=
  of_opcode (op := 0x9F#8) (n := 3) rfl rfl rfl rfl
theorem ldyImm (v : Byte) : Statement (.ldyImm v) :=
  of_opcode (op := 0xA0#8) (n := 2) rfl rfl rfl rfl
theorem ldaIzx (z : Byte) : Statement (.ldaIzx z) :=
  of_opcode (op := 0xA1#8) (n := 2) rfl rfl rfl rfl
theorem ldxImm (v : Byte) : Statement (.ldxImm v) :=
  of_opcode (op := 0xA2#8) (n := 2) rfl rfl rfl rfl
theorem laxIzx (z : Byte) : Statement (.laxIzx z) :=
  of_opcode (op := 0xA3#8) (n := 2) rfl rfl rfl rfl
theorem ldyZp (z : Byte) : Statement (.ldyZp z) :=
  of_opcode (op := 0xA4#8) (n := 2) rfl rfl rfl rfl
theorem ldaZp (z : Byte) : Statement (.ldaZp z) :=
  of_opcode (op := 0xA5#8) (n := 2) rfl rfl rfl rfl
theorem ldxZp (z : Byte) : Statement (.ldxZp z) :=
  of_opcode (op := 0xA6#8) (n := 2) rfl rfl rfl rfl
theorem laxZp (z : Byte) : Statement (.laxZp z) :=
  of_opcode (op := 0xA7#8) (n := 2) rfl rfl rfl rfl
theorem tay : Statement (.tay) :=
  of_opcode (op := 0xA8#8) (n := 1) rfl rfl rfl rfl
theorem ldaImm (v : Byte) : Statement (.ldaImm v) :=
  of_opcode (op := 0xA9#8) (n := 2) rfl rfl rfl rfl
theorem tax : Statement (.tax) :=
  of_opcode (op := 0xAA#8) (n := 1) rfl rfl rfl rfl
theorem lxaImm (v : Byte) : Statement (.lxaImm v) :=
  of_opcode (op := 0xAB#8) (n := 2) rfl rfl rfl rfl
theorem ldyAbs (a : Addr) : Statement (.ldyAbs a) :=
  of_opcode (op := 0xAC#8) (n := 3) rfl rfl rfl rfl
theorem ldaAbs (a : Addr) : Statement (.ldaAbs a) :=
  of_opcode (op := 0xAD#8) (n := 3) rfl rfl rfl rfl
theorem ldxAbs (a : Addr) : Statement (.ldxAbs a) :=
  of_opcode (op := 0xAE#8) (n := 3) rfl rfl rfl rfl
theorem laxAbs (a : Addr) : Statement (.laxAbs a) :=
  of_opcode (op := 0xAF#8) (n := 3) rfl rfl rfl rfl
theorem bcs (off : Byte) : Statement (.bcs off) :=
  of_opcode (op := 0xB0#8) (n := 2) rfl rfl rfl rfl
theorem ldaIzy (z : Byte) : Statement (.ldaIzy z) :=
  of_opcode (op := 0xB1#8) (n := 2) rfl rfl rfl rfl
theorem laxIzy (z : Byte) : Statement (.laxIzy z) :=
  of_opcode (op := 0xB3#8) (n := 2) rfl rfl rfl rfl
theorem ldyZpx (z : Byte) : Statement (.ldyZpx z) :=
  of_opcode (op := 0xB4#8) (n := 2) rfl rfl rfl rfl
theorem ldaZpx (z : Byte) : Statement (.ldaZpx z) :=
  of_opcode (op := 0xB5#8) (n := 2) rfl rfl rfl rfl
theorem ldxZpy (z : Byte) : Statement (.ldxZpy z) :=
  of_opcode (op := 0xB6#8) (n := 2) rfl rfl rfl rfl
theorem laxZpy (z : Byte) : Statement (.laxZpy z) :=
  of_opcode (op := 0xB7#8) (n := 2) rfl rfl rfl rfl
theorem clv : Statement (.clv) :=
  of_opcode (op := 0xB8#8) (n := 1) rfl rfl rfl rfl
theorem ldaAby (a : Addr) : Statement (.ldaAby a) :=
  of_opcode (op := 0xB9#8) (n := 3) rfl rfl rfl rfl
theorem tsx : Statement (.tsx) :=
  of_opcode (op := 0xBA#8) (n := 1) rfl rfl rfl rfl
theorem lasAby (a : Addr) : Statement (.lasAby a) :=
  of_opcode (op := 0xBB#8) (n := 3) rfl rfl rfl rfl
theorem ldyAbx (a : Addr) : Statement (.ldyAbx a) :=
  of_opcode (op := 0xBC#8) (n := 3) rfl rfl rfl rfl
theorem ldaAbx (a : Addr) : Statement (.ldaAbx a) :=
  of_opcode (op := 0xBD#8) (n := 3) rfl rfl rfl rfl
theorem ldxAby (a : Addr) : Statement (.ldxAby a) :=
  of_opcode (op := 0xBE#8) (n := 3) rfl rfl rfl rfl
theorem laxAby (a : Addr) : Statement (.laxAby a) :=
  of_opcode (op := 0xBF#8) (n := 3) rfl rfl rfl rfl
theorem cpyImm (v : Byte) : Statement (.cpyImm v) :=
  of_opcode (op := 0xC0#8) (n := 2) rfl rfl rfl rfl
theorem cmpIzx (z : Byte) : Statement (.cmpIzx z) :=
  of_opcode (op := 0xC1#8) (n := 2) rfl rfl rfl rfl
theorem dcpIzx (z : Byte) : Statement (.dcpIzx z) :=
  of_opcode (op := 0xC3#8) (n := 2) rfl rfl rfl rfl
theorem cpyZp (z : Byte) : Statement (.cpyZp z) :=
  of_opcode (op := 0xC4#8) (n := 2) rfl rfl rfl rfl
theorem cmpZp (z : Byte) : Statement (.cmpZp z) :=
  of_opcode (op := 0xC5#8) (n := 2) rfl rfl rfl rfl
theorem decZp (z : Byte) : Statement (.decZp z) :=
  of_opcode (op := 0xC6#8) (n := 2) rfl rfl rfl rfl
theorem dcpZp (z : Byte) : Statement (.dcpZp z) :=
  of_opcode (op := 0xC7#8) (n := 2) rfl rfl rfl rfl
theorem iny : Statement (.iny) :=
  of_opcode (op := 0xC8#8) (n := 1) rfl rfl rfl rfl
theorem cmpImm (v : Byte) : Statement (.cmpImm v) :=
  of_opcode (op := 0xC9#8) (n := 2) rfl rfl rfl rfl
theorem dex : Statement (.dex) :=
  of_opcode (op := 0xCA#8) (n := 1) rfl rfl rfl rfl
theorem axsImm (v : Byte) : Statement (.axsImm v) :=
  of_opcode (op := 0xCB#8) (n := 2) rfl rfl rfl rfl
theorem cpyAbs (a : Addr) : Statement (.cpyAbs a) :=
  of_opcode (op := 0xCC#8) (n := 3) rfl rfl rfl rfl
theorem cmpAbs (a : Addr) : Statement (.cmpAbs a) :=
  of_opcode (op := 0xCD#8) (n := 3) rfl rfl rfl rfl
theorem decAbs (a : Addr) : Statement (.decAbs a) :=
  of_opcode (op := 0xCE#8) (n := 3) rfl rfl rfl rfl
theorem dcpAbs (a : Addr) : Statement (.dcpAbs a) :=
  of_opcode (op := 0xCF#8) (n := 3) rfl rfl rfl rfl
theorem bne (off : Byte) : Statement (.bne off) :=
  of_opcode (op := 0xD0#8) (n := 2) rfl rfl rfl rfl
theorem cmpIzy (z : Byte) : Statement (.cmpIzy z) :=
  of_opcode (op := 0xD1#8) (n := 2) rfl rfl rfl rfl
theorem dcpIzy (z : Byte) : Statement (.dcpIzy z) :=
  of_opcode (op := 0xD3#8) (n := 2) rfl rfl rfl rfl
theorem cmpZpx (z : Byte) : Statement (.cmpZpx z) :=
  of_opcode (op := 0xD5#8) (n := 2) rfl rfl rfl rfl
theorem decZpx (z : Byte) : Statement (.decZpx z) :=
  of_opcode (op := 0xD6#8) (n := 2) rfl rfl rfl rfl
theorem dcpZpx (z : Byte) : Statement (.dcpZpx z) :=
  of_opcode (op := 0xD7#8) (n := 2) rfl rfl rfl rfl
theorem cld : Statement (.cld) :=
  of_opcode (op := 0xD8#8) (n := 1) rfl rfl rfl rfl
theorem cmpAby (a : Addr) : Statement (.cmpAby a) :=
  of_opcode (op := 0xD9#8) (n := 3) rfl rfl rfl rfl
theorem dcpAby (a : Addr) : Statement (.dcpAby a) :=
  of_opcode (op := 0xDB#8) (n := 3) rfl rfl rfl rfl
theorem cmpAbx (a : Addr) : Statement (.cmpAbx a) :=
  of_opcode (op := 0xDD#8) (n := 3) rfl rfl rfl rfl
theorem decAbx (a : Addr) : Statement (.decAbx a) :=
  of_opcode (op := 0xDE#8) (n := 3) rfl rfl rfl rfl
theorem dcpAbx (a : Addr) : Statement (.dcpAbx a) :=
  of_opcode (op := 0xDF#8) (n := 3) rfl rfl rfl rfl
theorem cpxImm (v : Byte) : Statement (.cpxImm v) :=
  of_opcode (op := 0xE0#8) (n := 2) rfl rfl rfl rfl
theorem sbcIzx (z : Byte) : Statement (.sbcIzx z) :=
  of_opcode (op := 0xE1#8) (n := 2) rfl rfl rfl rfl
theorem iscIzx (z : Byte) : Statement (.iscIzx z) :=
  of_opcode (op := 0xE3#8) (n := 2) rfl rfl rfl rfl
theorem cpxZp (z : Byte) : Statement (.cpxZp z) :=
  of_opcode (op := 0xE4#8) (n := 2) rfl rfl rfl rfl
theorem sbcZp (z : Byte) : Statement (.sbcZp z) :=
  of_opcode (op := 0xE5#8) (n := 2) rfl rfl rfl rfl
theorem incZp (z : Byte) : Statement (.incZp z) :=
  of_opcode (op := 0xE6#8) (n := 2) rfl rfl rfl rfl
theorem iscZp (z : Byte) : Statement (.iscZp z) :=
  of_opcode (op := 0xE7#8) (n := 2) rfl rfl rfl rfl
theorem inx : Statement (.inx) :=
  of_opcode (op := 0xE8#8) (n := 1) rfl rfl rfl rfl
theorem sbcImm (v : Byte) : Statement (.sbcImm v) :=
  of_opcode (op := 0xE9#8) (n := 2) rfl rfl rfl rfl
theorem nop : Statement (.nop) :=
  of_opcode (op := 0xEA#8) (n := 1) rfl rfl rfl rfl
theorem usbcImm (v : Byte) : Statement (.usbcImm v) :=
  of_opcode (op := 0xEB#8) (n := 2) rfl rfl rfl rfl
theorem cpxAbs (a : Addr) : Statement (.cpxAbs a) :=
  of_opcode (op := 0xEC#8) (n := 3) rfl rfl rfl rfl
theorem sbcAbs (a : Addr) : Statement (.sbcAbs a) :=
  of_opcode (op := 0xED#8) (n := 3) rfl rfl rfl rfl
theorem incAbs (a : Addr) : Statement (.incAbs a) :=
  of_opcode (op := 0xEE#8) (n := 3) rfl rfl rfl rfl
theorem iscAbs (a : Addr) : Statement (.iscAbs a) :=
  of_opcode (op := 0xEF#8) (n := 3) rfl rfl rfl rfl
theorem beq (off : Byte) : Statement (.beq off) :=
  of_opcode (op := 0xF0#8) (n := 2) rfl rfl rfl rfl
theorem sbcIzy (z : Byte) : Statement (.sbcIzy z) :=
  of_opcode (op := 0xF1#8) (n := 2) rfl rfl rfl rfl
theorem iscIzy (z : Byte) : Statement (.iscIzy z) :=
  of_opcode (op := 0xF3#8) (n := 2) rfl rfl rfl rfl
theorem sbcZpx (z : Byte) : Statement (.sbcZpx z) :=
  of_opcode (op := 0xF5#8) (n := 2) rfl rfl rfl rfl
theorem incZpx (z : Byte) : Statement (.incZpx z) :=
  of_opcode (op := 0xF6#8) (n := 2) rfl rfl rfl rfl
theorem iscZpx (z : Byte) : Statement (.iscZpx z) :=
  of_opcode (op := 0xF7#8) (n := 2) rfl rfl rfl rfl
theorem sed : Statement (.sed) :=
  of_opcode (op := 0xF8#8) (n := 1) rfl rfl rfl rfl
theorem sbcAby (a : Addr) : Statement (.sbcAby a) :=
  of_opcode (op := 0xF9#8) (n := 3) rfl rfl rfl rfl
theorem iscAby (a : Addr) : Statement (.iscAby a) :=
  of_opcode (op := 0xFB#8) (n := 3) rfl rfl rfl rfl
theorem sbcAbx (a : Addr) : Statement (.sbcAbx a) :=
  of_opcode (op := 0xFD#8) (n := 3) rfl rfl rfl rfl
theorem incAbx (a : Addr) : Statement (.incAbx a) :=
  of_opcode (op := 0xFE#8) (n := 3) rfl rfl rfl rfl
theorem iscAbx (a : Addr) : Statement (.iscAbx a) :=
  of_opcode (op := 0xFF#8) (n := 3) rfl rfl rfl rfl

end Sys2Proof.Laws.EncodeShape
end

