-- ==== Sys2Proof/Laws/Ppu.lean ====
section
/-! SUPPORT. What one dot of the PPU can do: the stages before the last keep the counters, the last advances them, and every
stage keeps the PPU's invariant. -/
namespace Sys2Proof.Machine

open Sys2Proof.Config Sys2Proof.Safety

/-- What every stage of a dot but the last keeps. -/
structure StageKeeps (p q : Ppu) : Prop where
  dot : q.dot = p.dot
  scanline : q.scanline = p.scanline
  frame : q.frame = p.frame
  ctrl : q.ctrl = p.ctrl
  mask : q.mask = p.mask
  vram : q.vram = p.vram
  palette : q.palette = p.palette
  oam : q.oam = p.oam
  oamAddr : q.oamAddr = p.oamAddr
  t : q.t = p.t
  x : q.x = p.x
  w : q.w = p.w
  readBuffer : q.readBuffer = p.readBuffer
  front : q.front = p.front
  wf : PpuWf p → PpuWf q

theorem StageKeeps.refl (p : Ppu) : StageKeeps p p := by constructor <;> first | rfl | exact id

theorem StageKeeps.trans {p q r : Ppu} (h : StageKeeps p q) (h' : StageKeeps q r) : StageKeeps p r :=
  ⟨h'.dot.trans h.dot, h'.scanline.trans h.scanline, h'.frame.trans h.frame, h'.ctrl.trans h.ctrl,
    h'.mask.trans h.mask, h'.vram.trans h.vram, h'.palette.trans h.palette, h'.oam.trans h.oam,
    h'.oamAddr.trans h.oamAddr, h'.t.trans h.t, h'.x.trans h.x, h'.w.trans h.w, h'.readBuffer.trans h.readBuffer,
    h'.front.trans h.front, h'.wf ∘ h.wf⟩

theorem fbKey_lt (x y : Nat) : fbKey x y < fbWidth * fbHeight := by
  unfold fbKey fbWidth fbHeight
  omega

theorem outputPixel_keeps (x y : Nat) (p : Ppu) : StageKeeps p (p.outputPixel x y) := by
  constructor <;> first | rfl | skip
  exact fun h => ⟨h.vram, h.palette, h.oam, Store.wf_write _ h.back (fbKey_lt x y) _, h.front, h.dot, h.scanline,
    h.sprites⟩

theorem pixelStage_keeps (p : Ppu) : StageKeeps p p.pixelStage := by
  unfold Ppu.pixelStage
  split
  · exact outputPixel_keeps _ _ p
  · exact StageKeeps.refl p

theorem PpuWf.congr {p q : Ppu} (h : PpuWf p) (hv : q.vram = p.vram) (hp : q.palette = p.palette) (ho : q.oam = p.oam)
    (hb : q.back = p.back) (hf : q.front = p.front) (hd : q.dot = p.dot) (hs : q.scanline = p.scanline)
    (hn : q.sprCount ≤ 8) : PpuWf q :=
  ⟨hv ▸ h.vram, hp ▸ h.palette, ho ▸ h.oam, hb ▸ h.back, hf ▸ h.front, hd ▸ h.dot, hs ▸ h.scanline, hn⟩

theorem fetchStage_keeps (read : BitVec 14 → Byte) (p : Ppu) : StageKeeps p (p.fetchStage read) := by
  unfold Ppu.fetchStage
  split
  · unfold Ppu.shiftAndFetch Ppu.fetch
    split <;> (constructor <;> first | rfl | exact fun h => PpuWf.congr h rfl rfl rfl rfl rfl rfl rfl h.sprites)
  · exact StageKeeps.refl p

theorem scrollStage_keeps (p : Ppu) : StageKeeps p p.scrollStage := by
  unfold Ppu.scrollStage
  split
  · constructor <;> first | rfl | exact fun h => PpuWf.congr h rfl rfl rfl rfl rfl rfl rfl h.sprites
  · exact StageKeeps.refl p

theorem spriteStage_keeps (read : BitVec 14 → Byte) (p : Ppu) : StageKeeps p (p.spriteStage read) := by
  unfold Ppu.spriteStage
  split
  · split
    · constructor <;> first | rfl | skip
      refine fun h => PpuWf.congr h rfl rfl rfl rfl rfl rfl rfl ?_
      show (if _ then 8 else _) ≤ 8
      split <;> omega
    split
    · constructor <;> first | rfl | exact fun h => PpuWf.congr h rfl rfl rfl rfl rfl rfl rfl (Nat.zero_le 8)
    · exact StageKeeps.refl p
  · exact StageKeeps.refl p

theorem flagStage_keeps (p : Ppu) : StageKeeps p p.flagStage := by
  unfold Ppu.flagStage
  split
  · constructor <;> first | rfl | exact fun h => PpuWf.congr h rfl rfl rfl rfl rfl rfl rfl h.sprites
  split
  · constructor <;> first | rfl | exact fun h => PpuWf.congr h rfl rfl rfl rfl rfl rfl rfl h.sprites
  · exact StageKeeps.refl p

/-- A dot is stages that keep the counters, followed by their advance. -/
theorem ppuStep_stages (u : Byte) (m : Option Mapper) (p : Ppu) :
    ∃ q, StageKeeps p q ∧ (ppuStep u m p).1 = q.advance :=
  ⟨_, ((((pixelStage_keeps p).trans (fetchStage_keeps _ _)).trans (scrollStage_keeps _)).trans
    (spriteStage_keeps _ _)).trans (flagStage_keeps _), rfl⟩

/-- The PPU's memories but the framebuffers, and its CPU-written latches, are the CPU's alone: no dot changes them. -/
theorem advance_wf {p : Ppu} (h : PpuWf p) : PpuWf p.advance := by
  obtain ⟨hv, hp, ho, hb, hf, hd, hs, hn⟩ := h
  unfold Ppu.advance
  split
  · split
    · exact ⟨hv, hp, ho, hf, hb, Nat.zero_le _, Nat.zero_le _, hn⟩
    · rename_i h1 h2
      exact ⟨hv, hp, ho, hb, hf, Nat.zero_le _, by simp only [linesPerFrame] at h2; show p.scanline + 1 ≤ 261; omega, hn⟩
  · rename_i h1
    exact ⟨hv, hp, ho, hb, hf, by simp only [dotsPerLine] at h1; show p.dot + 1 ≤ 340; omega, hs, hn⟩

theorem ppuStep_wf {p : Ppu} (h : PpuWf p) (u : Byte) (m : Option Mapper) : PpuWf (ppuStep u m p).1 := by
  obtain ⟨q, hq, he⟩ := ppuStep_stages u m p
  exact he ▸ advance_wf (hq.wf h)

/-- The dots a PPU has completed since the last reset, by its counters. -/
def Ppu.dots (p : Ppu) : Nat := dotsPerFrame * p.frame + (dotsPerLine * p.scanline + p.dot)

theorem advance_dots (p : Ppu) : p.advance.dots = p.dots + 1 := by
  unfold Ppu.advance Ppu.dots
  split
  · rename_i h1
    simp only [dotsPerLine] at h1
    split
    · rename_i h2
      simp only [linesPerFrame] at h2
      simp only [Ppu.completeFrame, dotsPerLine, dotsPerFrame]
      omega
    · simp only [dotsPerLine, dotsPerFrame]
      omega
  · simp only [dotsPerLine, dotsPerFrame]
    omega

theorem ppuStep_dots (u : Byte) (m : Option Mapper) (p : Ppu) : (ppuStep u m p).1.dots = p.dots + 1 := by
  obtain ⟨q, hq, he⟩ := ppuStep_stages u m p
  rw [he, advance_dots]
  simp only [Ppu.dots, hq.dot, hq.scanline, hq.frame]

theorem ppuRun_wf {p : Ppu} (h : PpuWf p) (u : Byte) (m : Option Mapper) (n : Nat) : PpuWf (ppuRun u m n p).1 := by
  induction n generalizing p with
  | zero => exact h
  | succ n ih => exact ih (ppuStep_wf h u m)

theorem ppuRun_dots (u : Byte) (m : Option Mapper) (n : Nat) (p : Ppu) : (ppuRun u m n p).1.dots = p.dots + n := by
  induction n generalizing p with
  | zero => rfl
  | succ n ih =>
    show (ppuRun u m n (ppuStep u m p).1).1.dots = _
    rw [ih, ppuStep_dots]
    omega

end Sys2Proof.Machine
end

