-- ==== Sys2Proof/Tests/Slice0.lean ====
section
/-! SUPPORT. The model's own tests. Every expected result is the spec's: the opcode table (30_encoding.md R146,
opcode_table.json), the vectors of spec/95_test_vectors.md (named by their ids), or an example a rule prints. At the end
one witness for each statement of Certificates/Slice0/Obligations.lean that has hypotheses. -/
namespace Sys2Proof.Tests

open Sys2Proof.Machine Sys2Proof.Safety Sys2Proof.Config

/-! ### WellFormed smoke: one ill-formed term for each check -/

theorem test_wellFormed_refuses_no_opcode : hasOpcode [] = false ∧ wellFormedBytes [] = false := by decide
theorem test_wellFormed_refuses_missing_operand :
    hasOperands [0xA9#8] = false ∧ wellFormedBytes [0xA9#8] = false ∧ wellFormedBytes [0x8D#8, 0x00#8] = false := by decide
theorem test_wellFormed_refuses_extra_byte :
    hasNothingMore [0xEA#8, 0x00#8] = false ∧ wellFormedBytes [0xEA#8, 0x00#8] = false := by decide
theorem test_wellFormed_takes_one_instruction :
    wellFormedBytes [0xEA#8] = true ∧ wellFormedBytes [0xA9#8, 0x42#8] = true ∧
      wellFormedBytes [0x6C#8, 0xFF#8, 0x02#8] = true ∧ (Instr.jmpInd 0x02FF#16).wellFormed = true := by decide

/-! ### Decoding: the 256 rows of the opcode table, sixteen at a time, their bytes written out -/

/-- Every list of bytes decodes, whole, to the instruction beside it, and that encodes back to the bytes. -/
def decodes (rows : List (List Byte × Instr)) : Bool :=
  rows.all fun r =>
    (match decode r.1 with
      | .ok (i, rest) => decide (i = r.2) && decide (rest = [])
      | .error _ => false) && decide (encode r.2 = r.1)

theorem test_decode_row_0 : decodes
    [([0x00#8], .brk), ([0x01#8, 0x0A#8], .oraIzx 0x0A#8),
     ([0x02#8], .jam .b02), ([0x03#8, 0x18#8], .sloIzx 0x18#8),
     ([0x04#8, 0x1F#8], .nopZp .b04 0x1F#8), ([0x05#8, 0x26#8], .oraZp 0x26#8),
     ([0x06#8, 0x2D#8], .aslZp 0x2D#8), ([0x07#8, 0x34#8], .sloZp 0x34#8),
     ([0x08#8], .php), ([0x09#8, 0x42#8], .oraImm 0x42#8),
     ([0x0A#8], .aslAcc), ([0x0B#8, 0x50#8], .ancImm .b0B 0x50#8),
     ([0x0C#8, 0x3D#8, 0x26#8], .nopAbs 0x263D#16), ([0x0D#8, 0x42#8, 0x29#8], .oraAbs 0x2942#16),
     ([0x0E#8, 0x47#8, 0x2C#8], .aslAbs 0x2C47#16), ([0x0F#8, 0x4C#8, 0x2F#8], .sloAbs 0x2F4C#16)] = true := by decide

theorem test_decode_row_1 : decodes
    [([0x10#8, 0x73#8], .bpl 0x73#8), ([0x11#8, 0x7A#8], .oraIzy 0x7A#8),
     ([0x12#8], .jam .b12), ([0x13#8, 0x88#8], .sloIzy 0x88#8),
     ([0x14#8, 0x8F#8], .nopZpx .b14 0x8F#8), ([0x15#8, 0x96#8], .oraZpx 0x96#8),
     ([0x16#8, 0x9D#8], .aslZpx 0x9D#8), ([0x17#8, 0xA4#8], .sloZpx 0xA4#8),
     ([0x18#8], .clc), ([0x19#8, 0x7E#8, 0x4D#8], .oraAby 0x4D7E#16),
     ([0x1A#8], .nopImp .b1A), ([0x1B#8, 0x88#8, 0x53#8], .sloAby 0x5388#16),
     ([0x1C#8, 0x8D#8, 0x56#8], .nopAbx .b1C 0x568D#16), ([0x1D#8, 0x92#8, 0x59#8], .oraAbx 0x5992#16),
     ([0x1E#8, 0x97#8, 0x5C#8], .aslAbx 0x5C97#16), ([0x1F#8, 0x9C#8, 0x5F#8], .sloAbx 0x5F9C#16)] = true := by decide

theorem test_decode_row_2 : decodes
    [([0x20#8, 0xA1#8, 0x62#8], .jsrAbs 0x62A1#16), ([0x21#8, 0xEA#8], .andIzx 0xEA#8),
     ([0x22#8], .jam .b22), ([0x23#8, 0xF8#8], .rlaIzx 0xF8#8),
     ([0x24#8, 0xFF#8], .bitZp 0xFF#8), ([0x25#8, 0x06#8], .andZp 0x06#8),
     ([0x26#8, 0x0D#8], .rolZp 0x0D#8), ([0x27#8, 0x14#8], .rlaZp 0x14#8),
     ([0x28#8], .plp), ([0x29#8, 0x22#8], .andImm 0x22#8),
     ([0x2A#8], .rolAcc), ([0x2B#8, 0x30#8], .ancImm .b2B 0x30#8),
     ([0x2C#8, 0xDD#8, 0x86#8], .bitAbs 0x86DD#16), ([0x2D#8, 0xE2#8, 0x89#8], .andAbs 0x89E2#16),
     ([0x2E#8, 0xE7#8, 0x8C#8], .rolAbs 0x8CE7#16), ([0x2F#8, 0xEC#8, 0x8F#8], .rlaAbs 0x8FEC#16)] = true := by decide

theorem test_decode_row_3 : decodes
    [([0x30#8, 0x53#8], .bmi 0x53#8), ([0x31#8, 0x5A#8], .andIzy 0x5A#8),
     ([0x32#8], .jam .b32), ([0x33#8, 0x68#8], .rlaIzy 0x68#8),
     ([0x34#8, 0x6F#8], .nopZpx .b34 0x6F#8), ([0x35#8, 0x76#8], .andZpx 0x76#8),
     ([0x36#8, 0x7D#8], .rolZpx 0x7D#8), ([0x37#8, 0x84#8], .rlaZpx 0x84#8),
     ([0x38#8], .sec), ([0x39#8, 0x1E#8, 0xAD#8], .andAby 0xAD1E#16),
     ([0x3A#8], .nopImp .b3A), ([0x3B#8, 0x28#8, 0xB3#8], .rlaAby 0xB328#16),
     ([0x3C#8, 0x2D#8, 0xB6#8], .nopAbx .b3C 0xB62D#16), ([0x3D#8, 0x32#8, 0xB9#8], .andAbx 0xB932#16),
     ([0x3E#8, 0x37#8, 0xBC#8], .rolAbx 0xBC37#16), ([0x3F#8, 0x3C#8, 0xBF#8], .rlaAbx 0xBF3C#16)] = true := by decide

theorem test_decode_row_4 : decodes
    [([0x40#8], .rti), ([0x41#8, 0xCA#8], .eorIzx 0xCA#8),
     ([0x42#8], .jam .b42), ([0x43#8, 0xD8#8], .sreIzx 0xD8#8),
     ([0x44#8, 0xDF#8], .nopZp .b44 0xDF#8), ([0x45#8, 0xE6#8], .eorZp 0xE6#8),
     ([0x46#8, 0xED#8], .lsrZp 0xED#8), ([0x47#8, 0xF4#8], .sreZp 0xF4#8),
     ([0x48#8], .pha), ([0x49#8, 0x02#8], .eorImm 0x02#8),
     ([0x4A#8], .lsrAcc), ([0x4B#8, 0x10#8], .alrImm 0x10#8),
     ([0x4C#8, 0x7D#8, 0xE6#8], .jmpAbs 0xE67D#16), ([0x4D#8, 0x82#8, 0xE9#8], .eorAbs 0xE982#16),
     ([0x4E#8, 0x87#8, 0xEC#8], .lsrAbs 0xEC87#16), ([0x4F#8, 0x8C#8, 0xEF#8], .sreAbs 0xEF8C#16)] = true := by decide

theorem test_decode_row_5 : decodes
    [([0x50#8, 0x33#8], .bvc 0x33#8), ([0x51#8, 0x3A#8], .eorIzy 0x3A#8),
     ([0x52#8], .jam .b52), ([0x53#8, 0x48#8], .sreIzy 0x48#8),
     ([0x54#8, 0x4F#8], .nopZpx .b54 0x4F#8), ([0x55#8, 0x56#8], .eorZpx 0x56#8),
     ([0x56#8, 0x5D#8], .lsrZpx 0x5D#8), ([0x57#8, 0x64#8], .sreZpx 0x64#8),
     ([0x58#8], .cli), ([0x59#8, 0xBE#8, 0x0D#8], .eorAby 0x0DBE#16),
     ([0x5A#8], .nopImp .b5A), ([0x5B#8, 0xC8#8, 0x13#8], .sreAby 0x13C8#16),
     ([0x5C#8, 0xCD#8, 0x16#8], .nopAbx .b5C 0x16CD#16), ([0x5D#8, 0xD2#8, 0x19#8], .eorAbx 0x19D2#16),
     ([0x5E#8, 0xD7#8, 0x1C#8], .lsrAbx 0x1CD7#16), ([0x5F#8, 0xDC#8, 0x1F#8], .sreAbx 0x1FDC#16)] = true := by decide

theorem test_decode_row_6 : decodes
    [([0x60#8], .rts), ([0x61#8, 0xAA#8], .adcIzx 0xAA#8),
     ([0x62#8], .jam .b62), ([0x63#8, 0xB8#8], .rraIzx 0xB8#8),
     ([0x64#8, 0xBF#8], .nopZp .b64 0xBF#8), ([0x65#8, 0xC6#8], .adcZp 0xC6#8),
     ([0x66#8, 0xCD#8], .rorZp 0xCD#8), ([0x67#8, 0xD4#8], .rraZp 0xD4#8),
     ([0x68#8], .pla), ([0x69#8, 0xE2#8], .adcImm 0xE2#8),
     ([0x6A#8], .rorAcc), ([0x6B#8, 0xF0#8], .arrImm 0xF0#8),
     ([0x6C#8, 0x1D#8, 0x46#8], .jmpInd 0x461D#16), ([0x6D#8, 0x22#8, 0x49#8], .adcAbs 0x4922#16),
     ([0x6E#8, 0x27#8, 0x4C#8], .rorAbs 0x4C27#16), ([0x6F#8, 0x2C#8, 0x4F#8], .rraAbs 0x4F2C#16)] = true := by decide

theorem test_decode_row_7 : decodes
    [([0x70#8, 0x13#8], .bvs 0x13#8), ([0x71#8, 0x1A#8], .adcIzy 0x1A#8),
     ([0x72#8], .jam .b72), ([0x73#8, 0x28#8], .rraIzy 0x28#8),
     ([0x74#8, 0x2F#8], .nopZpx .b74 0x2F#8), ([0x75#8, 0x36#8], .adcZpx 0x36#8),
     ([0x76#8, 0x3D#8], .rorZpx 0x3D#8), ([0x77#8, 0x44#8], .rraZpx 0x44#8),
     ([0x78#8], .sei), ([0x79#8, 0x5E#8, 0x6D#8], .adcAby 0x6D5E#16),
     ([0x7A#8], .nopImp .b7A), ([0x7B#8, 0x68#8, 0x73#8], .rraAby 0x7368#16),
     ([0x7C#8, 0x6D#8, 0x76#8], .nopAbx .b7C 0x766D#16), ([0x7D#8, 0x72#8, 0x79#8], .adcAbx 0x7972#16),
     ([0x7E#8, 0x77#8, 0x7C#8], .rorAbx 0x7C77#16), ([0x7F#8, 0x7C#8, 0x7F#8], .rraAbx 0x7F7C#16)] = true := by decide

theorem test_decode_row_8 : decodes
    [([0x80#8, 0x83#8], .nopImm .b80 0x83#8), ([0x81#8, 0x8A#8], .staIzx 0x8A#8),
     ([0x82#8, 0x91#8], .nopImm .b82 0x91#8), ([0x83#8, 0x98#8], .saxIzx 0x98#8),
     ([0x84#8, 0x9F#8], .styZp 0x9F#8), ([0x85#8, 0xA6#8], .staZp 0xA6#8),
     ([0x86#8, 0xAD#8], .stxZp 0xAD#8), ([0x87#8, 0xB4#8], .saxZp 0xB4#8),
     ([0x88#8], .dey), ([0x89#8, 0xC2#8], .nopImm .b89 0xC2#8),
     ([0x8A#8], .txa), ([0x8B#8, 0xD0#8], .xaaImm 0xD0#8),
     ([0x8C#8, 0xBD#8, 0xA6#8], .styAbs 0xA6BD#16), ([0x8D#8, 0xC2#8, 0xA9#8], .staAbs 0xA9C2#16),
     ([0x8E#8, 0xC7#8, 0xAC#8], .stxAbs 0xACC7#16), ([0x8F#8, 0xCC#8, 0xAF#8], .saxAbs 0xAFCC#16)] = true := by decide

theorem test_decode_row_9 : decodes
    [([0x90#8, 0xF3#8], .bcc 0xF3#8), ([0x91#8, 0xFA#8], .staIzy 0xFA#8),
     ([0x92#8], .jam .b92), ([0x93#8, 0x08#8], .shaIzy 0x08#8),
     ([0x94#8, 0x0F#8], .styZpx 0x0F#8), ([0x95#8, 0x16#8], .staZpx 0x16#8),
     ([0x96#8, 0x1D#8], .stxZpy 0x1D#8), ([0x97#8, 0x24#8], .saxZpy 0x24#8),
     ([0x98#8], .tya), ([0x99#8, 0xFE#8, 0xCD#8], .staAby 0xCDFE#16),
     ([0x9A#8], .txs), ([0x9B#8, 0x08#8, 0xD3#8], .tasAby 0xD308#16),
     ([0x9C#8, 0x0D#8, 0xD6#8], .shyAbx 0xD60D#16), ([0x9D#8, 0x12#8, 0xD9#8], .staAbx 0xD912#16),
     ([0x9E#8, 0x17#8, 0xDC#8], .shxAby 0xDC17#16), ([0x9F#8, 0x1C#8, 0xDF#8], .shaAby 0xDF1C#16)] = true := by decide

theorem test_decode_row_A : decodes
    [([0xA0#8, 0x63#8], .ldyImm 0x63#8), ([0xA1#8, 0x6A#8], .ldaIzx 0x6A#8),
     ([0xA2#8, 0x71#8], .ldxImm 0x71#8), ([0xA3#8, 0x78#8], .laxIzx 0x78#8),
     ([0xA4#8, 0x7F#8], .ldyZp 0x7F#8), ([0xA5#8, 0x86#8], .ldaZp 0x86#8),
     ([0xA6#8, 0x8D#8], .ldxZp 0x8D#8), ([0xA7#8, 0x94#8], .laxZp 0x94#8),
     ([0xA8#8], .tay), ([0xA9#8, 0xA2#8], .ldaImm 0xA2#8),
     ([0xAA#8], .tax), ([0xAB#8, 0xB0#8], .lxaImm 0xB0#8),
     ([0xAC#8, 0x5D#8, 0x06#8], .ldyAbs 0x065D#16), ([0xAD#8, 0x62#8, 0x09#8], .ldaAbs 0x0962#16),
     ([0xAE#8, 0x67#8, 0x0C#8], .ldxAbs 0x0C67#16), ([0xAF#8, 0x6C#8, 0x0F#8], .laxAbs 0x0F6C#16)] = true := by decide

theorem test_decode_row_B : decodes
    [([0xB0#8, 0xD3#8], .bcs 0xD3#8), ([0xB1#8, 0xDA#8], .ldaIzy 0xDA#8),
     ([0xB2#8], .jam .bB2), ([0xB3#8, 0xE8#8], .laxIzy 0xE8#8),
     ([0xB4#8, 0xEF#8], .ldyZpx 0xEF#8), ([0xB5#8, 0xF6#8], .ldaZpx 0xF6#8),
     ([0xB6#8, 0xFD#8], .ldxZpy 0xFD#8), ([0xB7#8, 0x04#8], .laxZpy 0x04#8),
     ([0xB8#8], .clv), ([0xB9#8, 0x9E#8, 0x2D#8], .ldaAby 0x2D9E#16),
     ([0xBA#8], .tsx), ([0xBB#8, 0xA8#8, 0x33#8], .lasAby 0x33A8#16),
     ([0xBC#8, 0xAD#8, 0x36#8], .ldyAbx 0x36AD#16), ([0xBD#8, 0xB2#8, 0x39#8], .ldaAbx 0x39B2#16),
     ([0xBE#8, 0xB7#8, 0x3C#8], .ldxAby 0x3CB7#16), ([0xBF#8, 0xBC#8, 0x3F#8], .laxAby 0x3FBC#16)] = true := by decide

theorem test_decode_row_C : decodes
    [([0xC0#8, 0x43#8], .cpyImm 0x43#8), ([0xC1#8, 0x4A#8], .cmpIzx 0x4A#8),
     ([0xC2#8, 0x51#8], .nopImm .bC2 0x51#8), ([0xC3#8, 0x58#8], .dcpIzx 0x58#8),
     ([0xC4#8, 0x5F#8], .cpyZp 0x5F#8), ([0xC5#8, 0x66#8], .cmpZp 0x66#8),
     ([0xC6#8, 0x6D#8], .decZp 0x6D#8), ([0xC7#8, 0x74#8], .dcpZp 0x74#8),
     ([0xC8#8], .iny), ([0xC9#8, 0x82#8], .cmpImm 0x82#8),
     ([0xCA#8], .dex), ([0xCB#8, 0x90#8], .axsImm 0x90#8),
     ([0xCC#8, 0xFD#8, 0x66#8], .cpyAbs 0x66FD#16), ([0xCD#8, 0x02#8, 0x69#8], .cmpAbs 0x6902#16),
     ([0xCE#8, 0x07#8, 0x6C#8], .decAbs 0x6C07#16), ([0xCF#8, 0x0C#8, 0x6F#8], .dcpAbs 0x6F0C#16)] = true := by decide

theorem test_decode_row_D : decodes
    [([0xD0#8, 0xB3#8], .bne 0xB3#8), ([0xD1#8, 0xBA#8], .cmpIzy 0xBA#8),
     ([0xD2#8], .jam .bD2), ([0xD3#8, 0xC8#8], .dcpIzy 0xC8#8),
     ([0xD4#8, 0xCF#8], .nopZpx .bD4 0xCF#8), ([0xD5#8, 0xD6#8], .cmpZpx 0xD6#8),
     ([0xD6#8, 0xDD#8], .decZpx 0xDD#8), ([0xD7#8, 0xE4#8], .dcpZpx 0xE4#8),
     ([0xD8#8], .cld), ([0xD9#8, 0x3E#8, 0x8D#8], .cmpAby 0x8D3E#16),
     ([0xDA#8], .nopImp .bDA), ([0xDB#8, 0x48#8, 0x93#8], .dcpAby 0x9348#16),
     ([0xDC#8, 0x4D#8, 0x96#8], .nopAbx .bDC 0x964D#16), ([0xDD#8, 0x52#8, 0x99#8], .cmpAbx 0x9952#16),
     ([0xDE#8, 0x57#8, 0x9C#8], .decAbx 0x9C57#16), ([0xDF#8, 0x5C#8, 0x9F#8], .dcpAbx 0x9F5C#16)] = true := by decide

theorem test_decode_row_E : decodes
    [([0xE0#8, 0x23#8], .cpxImm 0x23#8), ([0xE1#8, 0x2A#8], .sbcIzx 0x2A#8),
     ([0xE2#8, 0x31#8], .nopImm .bE2 0x31#8), ([0xE3#8, 0x38#8], .iscIzx 0x38#8),
     ([0xE4#8, 0x3F#8], .cpxZp 0x3F#8), ([0xE5#8, 0x46#8], .sbcZp 0x46#8),
     ([0xE6#8, 0x4D#8], .incZp 0x4D#8), ([0xE7#8, 0x54#8], .iscZp 0x54#8),
     ([0xE8#8], .inx), ([0xE9#8, 0x62#8], .sbcImm 0x62#8),
     ([0xEA#8], .nop), ([0xEB#8, 0x70#8], .usbcImm 0x70#8),
     ([0xEC#8, 0x9D#8, 0xC6#8], .cpxAbs 0xC69D#16), ([0xED#8, 0xA2#8, 0xC9#8], .sbcAbs 0xC9A2#16),
     ([0xEE#8, 0xA7#8, 0xCC#8], .incAbs 0xCCA7#16), ([0xEF#8, 0xAC#8, 0xCF#8], .iscAbs 0xCFAC#16)] = true := by decide

theorem test_decode_row_F : decodes
    [([0xF0#8, 0x93#8], .beq 0x93#8), ([0xF1#8, 0x9A#8], .sbcIzy 0x9A#8),
     ([0xF2#8], .jam .bF2), ([0xF3#8, 0xA8#8], .iscIzy 0xA8#8),
     ([0xF4#8, 0xAF#8], .nopZpx .bF4 0xAF#8), ([0xF5#8, 0xB6#8], .sbcZpx 0xB6#8),
     ([0xF6#8, 0xBD#8], .incZpx 0xBD#8), ([0xF7#8, 0xC4#8], .iscZpx 0xC4#8),
     ([0xF8#8], .sed), ([0xF9#8, 0xDE#8, 0xED#8], .sbcAby 0xEDDE#16),
     ([0xFA#8], .nopImp .bFA), ([0xFB#8, 0xE8#8, 0xF3#8], .iscAby 0xF3E8#16),
     ([0xFC#8, 0xED#8, 0xF6#8], .nopAbx .bFC 0xF6ED#16), ([0xFD#8, 0xF2#8, 0xF9#8], .sbcAbx 0xF9F2#16),
     ([0xFE#8, 0xF7#8, 0xFC#8], .incAbx 0xFCF7#16), ([0xFF#8, 0xFC#8, 0xFF#8], .iscAbx 0xFFFC#16)] = true := by decide

theorem test_decodeTableWord :
    decodeTableWord 8 0xEA = some .nop ∧ decodeTableWord 8 0xA9 = some (.ldaImm 0x00#8) ∧
      decodeTableWord 24 0x02FF6C = some (.jmpInd 0x02FF#16) := by decide

/-! ### One CPU step: spec/95_test_vectors.md, part 2 -/

/-- Registers and flags, written as the vectors of spec/95_test_vectors.md write them. -/
def regs (a x y sp : Byte) (pc : Addr) (n v d i z c : Nat) : Cpu :=
  { a := a, x := x, y := y, s := sp, pc := pc, n := n == 1, v := v == 1, d := d == 1, i := i == 1, z := z == 1
    c := c == 1, nmiPending := false, jammed := false }

/-- The state after construction with a cartridge of one zero bank, the registers given, the bytes of `mem` in memory and
the instruction bytes at PC. -/
def placed (bytes : List Byte) (c : Cpu) (mem : List (Nat × Byte)) : State :=
  let s := { State.reset with
    cpu := c, mapper := some blankCartridge, console := { Console.init with loaded := true } }
  let s := mem.foldl (fun s p => s.placeByte (BitVec.ofNat 16 p.1) p.2) s
  bytes.zipIdx.foldl (fun s p => s.placeByte (c.pc + BitVec.ofNat 16 p.2) p.1) s

/-- The registers, the cycle count and the bytes at `watch` after one CPU step. -/
def after (bytes : List Byte) (c : Cpu) (mem : List (Nat × Byte)) (watch : List Nat) :
    Option (Cpu × Nat × List Byte) :=
  match cpuStep (placed bytes c mem) with
  | .next t => some (t.cpu, t.cpuReturn, watch.map fun a => (memRead (BitVec.ofNat 16 a) t).1)
  | .fault _ => none
  | .refused _ => none

theorem test_lda_LS1 :
    after [0xA9, 0x42] (regs 0x00 0x00 0x00 0xFD 0x0200 0 0 0 1 0 0) [] [] =
      some (regs 0x42 0x00 0x00 0xFD 0x0202 0 0 0 1 0 0, 2, []) := by decide
theorem test_lda_LS5 :
    after [0xB5, 0xF0] (regs 0x00 0x20 0x00 0xFD 0x0200 0 0 0 1 0 0) [(0x0010, 0x99), (0x0110, 0x11)] [] =
      some (regs 0x99 0x20 0x00 0xFD 0x0202 1 0 0 1 0 0, 4, []) := by decide
theorem test_ldx_LS14 :
    after [0xB6, 0x10] (regs 0x00 0x00 0xF8 0xFD 0x0200 0 0 0 1 0 0) [(0x0008, 0x33)] [] =
      some (regs 0x00 0x33 0xF8 0xFD 0x0202 0 0 0 1 0 0, 4, []) := by decide
theorem test_ldx_LS15 :
    after [0xBE, 0xFF, 0x02] (regs 0x00 0x00 0x02 0xFD 0x0200 0 0 0 1 0 0) [(0x0301, 0x00)] [] =
      some (regs 0x00 0x00 0x02 0xFD 0x0203 0 0 0 1 1 0, 5, []) := by decide
theorem test_ldy_LS16 :
    after [0xB4, 0x10] (regs 0x00 0x01 0x00 0xFD 0x0200 0 0 0 1 0 0) [(0x0011, 0x80)] [] =
      some (regs 0x00 0x01 0x80 0xFD 0x0202 1 0 0 1 0 0, 4, []) := by decide
theorem test_ldy_LS17 :
    after [0xBC, 0x00, 0x03] (regs 0x00 0xFF 0x00 0xFD 0x0200 0 0 0 1 0 0) [(0x03FF, 0x01)] [] =
      some (regs 0x00 0xFF 0x01 0xFD 0x0203 0 0 0 1 0 0, 4, []) := by decide
theorem test_sta_LS19 :
    after [0x9D, 0xF0, 0x02] (regs 0x01 0x20 0x00 0xFD 0x0200 0 0 0 1 0 0) [] [0x0310] =
      some (regs 0x01 0x20 0x00 0xFD 0x0203 0 0 0 1 0 0, 5, [0x01]) := by decide
theorem test_sta_LS21 :
    after [0x91, 0x20] (regs 0x77 0x00 0xFF 0xFD 0x0200 0 0 0 1 0 0) [(0x0020, 0x01), (0x0021, 0x03)] [0x0400] =
      some (regs 0x77 0x00 0xFF 0xFD 0x0202 0 0 0 1 0 0, 6, [0x77]) := by decide
theorem test_stx_LS23 :
    after [0x96, 0x10] (regs 0x00 0x5A 0x01 0xFD 0x0200 0 0 0 1 0 0) [] [0x0011] =
      some (regs 0x00 0x5A 0x01 0xFD 0x0202 0 0 0 1 0 0, 4, [0x5A]) := by decide
theorem test_sty_LS24 :
    after [0x8C, 0x00, 0x03] (regs 0x00 0x00 0x80 0xFD 0x0200 0 0 0 1 0 0) [] [0x0300] =
      some (regs 0x00 0x00 0x80 0xFD 0x0203 0 0 0 1 0 0, 4, [0x80]) := by decide
theorem test_tax_LS26 :
    after [0xAA] (regs 0x00 0x55 0x00 0xFD 0x0200 0 0 0 1 0 0) [] [] =
      some (regs 0x00 0x00 0x00 0xFD 0x0201 0 0 0 1 1 0, 2, []) := by decide
theorem test_tay_LS27 :
    after [0xA8] (regs 0x80 0x00 0x00 0xFD 0x0200 0 0 0 1 0 0) [] [] =
      some (regs 0x80 0x00 0x80 0xFD 0x0201 1 0 0 1 0 0, 2, []) := by decide
theorem test_txa_LS28 :
    after [0x8A] (regs 0x00 0x7F 0x00 0xFD 0x0200 0 0 0 1 0 0) [] [] =
      some (regs 0x7F 0x7F 0x00 0xFD 0x0201 0 0 0 1 0 0, 2, []) := by decide
theorem test_tya_LS29 :
    after [0x98] (regs 0x00 0x00 0xFF 0xFD 0x0200 0 0 0 1 0 0) [] [] =
      some (regs 0xFF 0x00 0xFF 0xFD 0x0201 1 0 0 1 0 0, 2, []) := by decide
theorem test_tsx_LS30 :
    after [0xBA] (regs 0x00 0x00 0x00 0xFD 0x0200 0 0 0 1 0 0) [] [] =
      some (regs 0x00 0xFD 0x00 0xFD 0x0201 1 0 0 1 0 0, 2, []) := by decide
theorem test_txs_LS31 :
    after [0x9A] (regs 0x00 0x00 0x00 0xFD 0x0200 0 0 0 1 0 0) [] [] =
      some (regs 0x00 0x00 0x00 0x00 0x0201 0 0 0 1 0 0, 2, []) := by decide
theorem test_txs_LS32 :
    after [0x9A] (regs 0x00 0x80 0x00 0xFD 0x0200 0 0 0 1 0 0) [] [] =
      some (regs 0x00 0x80 0x00 0x80 0x0201 0 0 0 1 0 0, 2, []) := by decide
theorem test_pha_ST1 :
    after [0x48] (regs 0x42 0x00 0x00 0xFD 0x0200 0 0 0 1 0 0) [] [0x01FD] =
      some (regs 0x42 0x00 0x00 0xFC 0x0201 0 0 0 1 0 0, 3, [0x42]) := by decide
theorem test_pha_ST2 :
    after [0x48] (regs 0x99 0x00 0x00 0x00 0x0200 0 0 0 1 0 0) [] [0x0100] =
      some (regs 0x99 0x00 0x00 0xFF 0x0201 0 0 0 1 0 0, 3, [0x99]) := by decide
theorem test_php_ST3 :
    after [0x08] (regs 0x00 0x00 0x00 0xFD 0x0200 1 0 0 0 0 1) [] [0x01FD] =
      some (regs 0x00 0x00 0x00 0xFC 0x0201 1 0 0 0 0 1, 3, [0xB1]) := by decide
theorem test_php_ST4 :
    after [0x08] (regs 0x00 0x00 0x00 0xFD 0x0200 0 0 0 1 0 0) [] [0x01FD] =
      some (regs 0x00 0x00 0x00 0xFC 0x0201 0 0 0 1 0 0, 3, [0x34]) := by decide
theorem test_pla_ST5 :
    after [0x68] (regs 0x11 0x00 0x00 0xFC 0x0200 0 0 0 1 0 0) [(0x01FD, 0x00)] [] =
      some (regs 0x00 0x00 0x00 0xFD 0x0201 0 0 0 1 1 0, 4, []) := by decide
theorem test_pla_ST6 :
    after [0x68] (regs 0x00 0x00 0x00 0xFF 0x0200 0 0 0 1 0 0) [(0x0100, 0x80)] [] =
      some (regs 0x80 0x00 0x00 0x00 0x0201 1 0 0 1 0 0, 4, []) := by decide
theorem test_plp_ST7 :
    after [0x28] (regs 0x00 0x00 0x00 0xFC 0x0200 0 0 0 1 0 0) [(0x01FD, 0xFF)] [] =
      some (regs 0x00 0x00 0x00 0xFD 0x0201 1 1 1 1 1 1, 4, []) := by decide
theorem test_plp_ST8 :
    after [0x28] (regs 0x00 0x00 0x00 0xFC 0x0200 1 0 0 1 0 1) [(0x01FD, 0x00)] [] =
      some (regs 0x00 0x00 0x00 0xFD 0x0201 0 0 0 0 0 0, 4, []) := by decide
theorem test_adc_AL1 :
    after [0x69, 0x50] (regs 0x50 0x00 0x00 0xFD 0x0200 0 0 0 1 0 0) [] [] =
      some (regs 0xA0 0x00 0x00 0xFD 0x0202 1 1 0 1 0 0, 2, []) := by decide
theorem test_adc_AL2 :
    after [0x69, 0x01] (regs 0xFF 0x00 0x00 0xFD 0x0200 0 0 0 1 0 0) [] [] =
      some (regs 0x00 0x00 0x00 0xFD 0x0202 0 0 0 1 1 1, 2, []) := by decide
theorem test_sbc_AL9 :
    after [0xE9, 0xF0] (regs 0x50 0x00 0x00 0xFD 0x0200 0 0 0 1 0 1) [] [] =
      some (regs 0x60 0x00 0x00 0xFD 0x0202 0 0 0 1 0 0, 2, []) := by decide
theorem test_sbc_AL10 :
    after [0xE9, 0xB0] (regs 0x50 0x00 0x00 0xFD 0x0200 0 0 0 1 0 1) [] [] =
      some (regs 0xA0 0x00 0x00 0xFD 0x0202 1 1 0 1 0 0, 2, []) := by decide
theorem test_and_AL16 :
    after [0x29, 0x0F] (regs 0xF0 0x00 0x00 0xFD 0x0200 0 0 0 1 0 0) [] [] =
      some (regs 0x00 0x00 0x00 0xFD 0x0202 0 0 0 1 1 0, 2, []) := by decide
theorem test_and_AL17 :
    after [0x25, 0x10] (regs 0xFF 0x00 0x00 0xFD 0x0200 0 0 0 1 0 0) [(0x0010, 0x80)] [] =
      some (regs 0x80 0x00 0x00 0xFD 0x0202 1 0 0 1 0 0, 3, []) := by decide
theorem test_ora_AL18 :
    after [0x09, 0x80] (regs 0x01 0x00 0x00 0xFD 0x0200 0 0 0 1 0 0) [] [] =
      some (regs 0x81 0x00 0x00 0xFD 0x0202 1 0 0 1 0 0, 2, []) := by decide
theorem test_ora_AL19 :
    after [0x09, 0x00] (regs 0x00 0x00 0x00 0xFD 0x0200 0 0 0 1 0 0) [] [] =
      some (regs 0x00 0x00 0x00 0xFD 0x0202 0 0 0 1 1 0, 2, []) := by decide
theorem test_eor_AL20 :
    after [0x49, 0xFF] (regs 0xFF 0x00 0x00 0xFD 0x0200 0 0 0 1 0 0) [] [] =
      some (regs 0x00 0x00 0x00 0xFD 0x0202 0 0 0 1 1 0, 2, []) := by decide
theorem test_eor_AL21 :
    after [0x49, 0xFF] (regs 0x0F 0x00 0x00 0xFD 0x0200 0 0 0 1 0 0) [] [] =
      some (regs 0xF0 0x00 0x00 0xFD 0x0202 1 0 0 1 0 0, 2, []) := by decide
theorem test_cmp_AL22 :
    after [0xC9, 0x40] (regs 0x40 0x00 0x00 0xFD 0x0200 0 0 0 1 0 0) [] [] =
      some (regs 0x40 0x00 0x00 0xFD 0x0202 0 0 0 1 1 1, 2, []) := by decide
theorem test_cmp_AL23 :
    after [0xC9, 0x41] (regs 0x40 0x00 0x00 0xFD 0x0200 0 0 0 1 0 0) [] [] =
      some (regs 0x40 0x00 0x00 0xFD 0x0202 1 0 0 1 0 0, 2, []) := by decide
theorem test_cpx_AL27 :
    after [0xE0, 0x10] (regs 0x00 0x0F 0x00 0xFD 0x0200 0 0 0 1 0 0) [] [] =
      some (regs 0x00 0x0F 0x00 0xFD 0x0202 1 0 0 1 0 0, 2, []) := by decide
theorem test_cpy_AL28 :
    after [0xC0, 0x00] (regs 0x00 0x00 0x00 0xFD 0x0200 0 0 0 1 0 0) [] [] =
      some (regs 0x00 0x00 0x00 0xFD 0x0202 0 0 0 1 1 1, 2, []) := by decide
theorem test_cpx_AL29 :
    after [0xEC, 0x00, 0x03] (regs 0x00 0x80 0x00 0xFD 0x0200 0 0 0 1 0 0) [(0x0300, 0x7F)] [] =
      some (regs 0x00 0x80 0x00 0xFD 0x0203 0 0 0 1 0 1, 4, []) := by decide
theorem test_bit_AL30 :
    after [0x24, 0x10] (regs 0x01 0x00 0x00 0xFD 0x0200 0 0 0 1 0 0) [(0x0010, 0xC0)] [] =
      some (regs 0x01 0x00 0x00 0xFD 0x0202 1 1 0 1 1 0, 3, []) := by decide
theorem test_bit_AL31 :
    after [0x24, 0x10] (regs 0xFF 0x00 0x00 0xFD 0x0200 1 1 0 1 0 0) [(0x0010, 0x3F)] [] =
      some (regs 0xFF 0x00 0x00 0xFD 0x0202 0 0 0 1 0 0, 3, []) := by decide
theorem test_asl_SH1 :
    after [0x0A] (regs 0x81 0x00 0x00 0xFD 0x0200 0 0 0 1 0 0) [] [] =
      some (regs 0x02 0x00 0x00 0xFD 0x0201 0 0 0 1 0 1, 2, []) := by decide
theorem test_asl_SH2 :
    after [0x0A] (regs 0x80 0x00 0x00 0xFD 0x0200 0 0 0 1 0 0) [] [] =
      some (regs 0x00 0x00 0x00 0xFD 0x0201 0 0 0 1 1 1, 2, []) := by decide
theorem test_lsr_SH5 :
    after [0x4A] (regs 0x01 0x00 0x00 0xFD 0x0200 0 0 0 1 0 0) [] [] =
      some (regs 0x00 0x00 0x00 0xFD 0x0201 0 0 0 1 1 1, 2, []) := by decide
theorem test_lsr_SH6 :
    after [0x4A] (regs 0x80 0x00 0x00 0xFD 0x0200 1 0 0 1 0 0) [] [] =
      some (regs 0x40 0x00 0x00 0xFD 0x0201 0 0 0 1 0 0, 2, []) := by decide
theorem test_rol_SH8 :
    after [0x2A] (regs 0x80 0x00 0x00 0xFD 0x0200 0 0 0 1 0 1) [] [] =
      some (regs 0x01 0x00 0x00 0xFD 0x0201 0 0 0 1 0 1, 2, []) := by decide
theorem test_rol_SH9 :
    after [0x2A] (regs 0x40 0x00 0x00 0xFD 0x0200 0 0 0 1 0 0) [] [] =
      some (regs 0x80 0x00 0x00 0xFD 0x0201 1 0 0 1 0 0, 2, []) := by decide
theorem test_ror_SH11 :
    after [0x6A] (regs 0x01 0x00 0x00 0xFD 0x0200 0 0 0 1 0 0) [] [] =
      some (regs 0x00 0x00 0x00 0xFD 0x0201 0 0 0 1 1 1, 2, []) := by decide
theorem test_ror_SH12 :
    after [0x6A] (regs 0x00 0x00 0x00 0xFD 0x0200 0 0 0 1 0 1) [] [] =
      some (regs 0x80 0x00 0x00 0xFD 0x0201 1 0 0 1 0 0, 2, []) := by decide
theorem test_inc_SH14 :
    after [0xE6, 0x10] (regs 0x00 0x00 0x00 0xFD 0x0200 0 0 0 1 0 0) [(0x0010, 0xFF)] [0x0010] =
      some (regs 0x00 0x00 0x00 0xFD 0x0202 0 0 0 1 1 0, 5, [0x00]) := by decide
theorem test_inc_SH15 :
    after [0xE6, 0x10] (regs 0x00 0x00 0x00 0xFD 0x0200 0 0 0 1 0 0) [(0x0010, 0x7F)] [0x0010] =
      some (regs 0x00 0x00 0x00 0xFD 0x0202 1 0 0 1 0 0, 5, [0x80]) := by decide
theorem test_dec_SH17 :
    after [0xC6, 0x10] (regs 0x00 0x00 0x00 0xFD 0x0200 0 0 0 1 0 0) [(0x0010, 0x00)] [0x0010] =
      some (regs 0x00 0x00 0x00 0xFD 0x0202 1 0 0 1 0 0, 5, [0xFF]) := by decide
theorem test_dec_SH18 :
    after [0xC6, 0x10] (regs 0x00 0x00 0x00 0xFD 0x0200 0 0 0 1 0 0) [(0x0010, 0x01)] [0x0010] =
      some (regs 0x00 0x00 0x00 0xFD 0x0202 0 0 0 1 1 0, 5, [0x00]) := by decide
theorem test_inx_SH19 :
    after [0xE8] (regs 0x00 0xFF 0x00 0xFD 0x0200 0 0 0 1 0 0) [] [] =
      some (regs 0x00 0x00 0x00 0xFD 0x0201 0 0 0 1 1 0, 2, []) := by decide
theorem test_iny_SH20 :
    after [0xC8] (regs 0x00 0x00 0x7F 0xFD 0x0200 0 0 0 1 0 0) [] [] =
      some (regs 0x00 0x00 0x80 0xFD 0x0201 1 0 0 1 0 0, 2, []) := by decide
theorem test_dex_SH21 :
    after [0xCA] (regs 0x00 0x00 0x00 0xFD 0x0200 0 0 0 1 0 0) [] [] =
      some (regs 0x00 0xFF 0x00 0xFD 0x0201 1 0 0 1 0 0, 2, []) := by decide
theorem test_dey_SH22 :
    after [0x88] (regs 0x00 0x00 0x01 0xFD 0x0200 0 0 0 1 0 0) [] [] =
      some (regs 0x00 0x00 0x00 0xFD 0x0201 0 0 0 1 1 0, 2, []) := by decide
theorem test_jmp_CF1 :
    after [0x4C, 0x34, 0x12] (regs 0x00 0x00 0x00 0xFD 0x0200 0 0 0 1 0 0) [] [] =
      some (regs 0x00 0x00 0x00 0xFD 0x1234 0 0 0 1 0 0, 3, []) := by decide
theorem test_jmp_CF2 :
    after [0x6C, 0x00, 0x03] (regs 0x00 0x00 0x00 0xFD 0x0200 0 0 0 1 0 0) [(0x0300, 0x78), (0x0301, 0x56)] [] =
      some (regs 0x00 0x00 0x00 0xFD 0x5678 0 0 0 1 0 0, 5, []) := by decide
theorem test_jsr_CF4 :
    after [0x20, 0x00, 0x03] (regs 0x00 0x00 0x00 0xFD 0x0200 0 0 0 1 0 0) [] [0x01FD, 0x01FC] =
      some (regs 0x00 0x00 0x00 0xFB 0x0300 0 0 0 1 0 0, 6, [0x02, 0x02]) := by decide
theorem test_jsr_CF5 :
    after [0x20, 0x00, 0x03] (regs 0x00 0x00 0x00 0x00 0x0200 0 0 0 1 0 0) [] [0x0100, 0x01FF] =
      some (regs 0x00 0x00 0x00 0xFE 0x0300 0 0 0 1 0 0, 6, [0x02, 0x02]) := by decide
theorem test_rts_CF6 :
    after [0x60] (regs 0x00 0x00 0x00 0xFB 0x0200 0 0 0 1 0 0) [(0x01FC, 0x02), (0x01FD, 0x02)] [] =
      some (regs 0x00 0x00 0x00 0xFD 0x0203 0 0 0 1 0 0, 6, []) := by decide
theorem test_rts_CF7 :
    after [0x60] (regs 0x00 0x00 0x00 0xFB 0x0200 0 0 0 1 0 0) [(0x01FC, 0xFF), (0x01FD, 0xFF)] [] =
      some (regs 0x00 0x00 0x00 0xFD 0x0000 0 0 0 1 0 0, 6, []) := by decide
theorem test_rti_CF8 :
    after [0x40] (regs 0x00 0x00 0x00 0xFA 0x0200 0 0 0 1 0 0) [(0x01FB, 0xC3), (0x01FC, 0x34), (0x01FD, 0x12)] [] =
      some (regs 0x00 0x00 0x00 0xFD 0x1234 1 1 0 0 1 1, 6, []) := by decide
theorem test_brk_CF9 :
    after [0x00, 0xFF] (regs 0x00 0x00 0x00 0xFD 0x0200 0 0 0 0 0 1) [(0xFFFE, 0x00), (0xFFFF, 0x90)] [0x01FD, 0x01FC, 0x01FB] =
      some (regs 0x00 0x00 0x00 0xFA 0x9000 0 0 0 1 0 1, 7, [0x02, 0x02, 0x31]) := by decide
theorem test_brk_CF10 :
    after [0x00] (regs 0x00 0x00 0x00 0xFD 0x0200 0 0 1 1 0 0) [(0xFFFE, 0x00), (0xFFFF, 0x90)] [0x01FB] =
      some (regs 0x00 0x00 0x00 0xFA 0x9000 0 0 1 1 0 0, 7, [0x3C]) := by decide
theorem test_bne_CF11 :
    after [0xD0, 0x02] (regs 0x00 0x00 0x00 0xFD 0x0200 0 0 0 1 1 0) [] [] =
      some (regs 0x00 0x00 0x00 0xFD 0x0202 0 0 0 1 1 0, 2, []) := by decide
theorem test_bne_CF13 :
    after [0xD0, 0xFC] (regs 0x00 0x00 0x00 0xFD 0x0200 0 0 0 1 0 0) [] [] =
      some (regs 0x00 0x00 0x00 0xFD 0x01FE 0 0 0 1 0 0, 4, []) := by decide
theorem test_beq_CF14 :
    after [0xF0, 0x7F] (regs 0x00 0x00 0x00 0xFD 0x02E0 0 0 0 1 1 0) [] [] =
      some (regs 0x00 0x00 0x00 0xFD 0x0361 0 0 0 1 1 0, 4, []) := by decide
theorem test_beq_CF15 :
    after [0xF0, 0x80] (regs 0x00 0x00 0x00 0xFD 0x02E0 0 0 0 1 1 0) [] [] =
      some (regs 0x00 0x00 0x00 0xFD 0x0262 0 0 0 1 1 0, 3, []) := by decide
theorem test_bpl_CF16 :
    after [0x10, 0x00] (regs 0x00 0x00 0x00 0xFD 0x0200 0 0 0 1 0 0) [] [] =
      some (regs 0x00 0x00 0x00 0xFD 0x0202 0 0 0 1 0 0, 3, []) := by decide
theorem test_bmi_CF17 :
    after [0x30, 0xFE] (regs 0x00 0x00 0x00 0xFD 0x0200 1 0 0 1 0 0) [] [] =
      some (regs 0x00 0x00 0x00 0xFD 0x0200 1 0 0 1 0 0, 3, []) := by decide
theorem test_bvc_CF18 :
    after [0x50, 0x05] (regs 0x00 0x00 0x00 0xFD 0x0200 0 1 0 1 0 0) [] [] =
      some (regs 0x00 0x00 0x00 0xFD 0x0202 0 1 0 1 0 0, 2, []) := by decide
theorem test_bvs_CF19 :
    after [0x70, 0x05] (regs 0x00 0x00 0x00 0xFD 0x0200 0 1 0 1 0 0) [] [] =
      some (regs 0x00 0x00 0x00 0xFD 0x0207 0 1 0 1 0 0, 3, []) := by decide
theorem test_bcc_CF20 :
    after [0x90, 0x05] (regs 0x00 0x00 0x00 0xFD 0x0200 0 0 0 1 0 0) [] [] =
      some (regs 0x00 0x00 0x00 0xFD 0x0207 0 0 0 1 0 0, 3, []) := by decide
theorem test_bcs_CF21 :
    after [0xB0, 0x05] (regs 0x00 0x00 0x00 0xFD 0x0200 0 0 0 1 0 0) [] [] =
      some (regs 0x00 0x00 0x00 0xFD 0x0202 0 0 0 1 0 0, 2, []) := by decide
theorem test_bcc_CF22 :
    after [0x90, 0x03] (regs 0x00 0x00 0x00 0xFD 0x02FC 0 0 0 1 0 0) [] [] =
      some (regs 0x00 0x00 0x00 0xFD 0x0301 0 0 0 1 0 0, 4, []) := by decide
theorem test_clc_FL1 :
    after [0x18] (regs 0x00 0x00 0x00 0xFD 0x0200 0 0 0 1 0 1) [] [] =
      some (regs 0x00 0x00 0x00 0xFD 0x0201 0 0 0 1 0 0, 2, []) := by decide
theorem test_sec_FL2 :
    after [0x38] (regs 0x00 0x00 0x00 0xFD 0x0200 0 0 0 1 0 0) [] [] =
      some (regs 0x00 0x00 0x00 0xFD 0x0201 0 0 0 1 0 1, 2, []) := by decide
theorem test_cli_FL3 :
    after [0x58] (regs 0x00 0x00 0x00 0xFD 0x0200 0 0 0 1 0 0) [] [] =
      some (regs 0x00 0x00 0x00 0xFD 0x0201 0 0 0 0 0 0, 2, []) := by decide
theorem test_sei_FL4 :
    after [0x78] (regs 0x00 0x00 0x00 0xFD 0x0200 0 0 0 0 0 0) [] [] =
      some (regs 0x00 0x00 0x00 0xFD 0x0201 0 0 0 1 0 0, 2, []) := by decide
theorem test_cld_FL5 :
    after [0xD8] (regs 0x00 0x00 0x00 0xFD 0x0200 0 0 1 1 0 0) [] [] =
      some (regs 0x00 0x00 0x00 0xFD 0x0201 0 0 0 1 0 0, 2, []) := by decide
theorem test_sed_FL6 :
    after [0xF8] (regs 0x00 0x00 0x00 0xFD 0x0200 0 0 0 1 0 0) [] [] =
      some (regs 0x00 0x00 0x00 0xFD 0x0201 0 0 1 1 0 0, 2, []) := by decide
theorem test_clv_FL7 :
    after [0xB8] (regs 0x00 0x00 0x00 0xFD 0x0200 0 1 0 1 0 0) [] [] =
      some (regs 0x00 0x00 0x00 0xFD 0x0201 0 0 0 1 0 0, 2, []) := by decide
theorem test_nop_FL8 :
    after [0xEA] (regs 0x00 0x00 0x00 0xFD 0x0200 0 0 0 1 0 0) [] [] =
      some (regs 0x00 0x00 0x00 0xFD 0x0201 0 0 0 1 0 0, 2, []) := by decide
theorem test_slo_UN1 :
    after [0x07, 0x10] (regs 0x01 0x00 0x00 0xFD 0x0200 0 0 0 1 0 0) [(0x0010, 0x81)] [0x0010] =
      some (regs 0x03 0x00 0x00 0xFD 0x0202 0 0 0 1 0 1, 5, [0x02]) := by decide
theorem test_rla_UN2 :
    after [0x27, 0x10] (regs 0xFF 0x00 0x00 0xFD 0x0200 0 0 0 1 0 1) [(0x0010, 0x40)] [0x0010] =
      some (regs 0x81 0x00 0x00 0xFD 0x0202 1 0 0 1 0 0, 5, [0x81]) := by decide
theorem test_sre_UN3 :
    after [0x47, 0x10] (regs 0xFF 0x00 0x00 0xFD 0x0200 0 0 0 1 0 0) [(0x0010, 0x03)] [0x0010] =
      some (regs 0xFE 0x00 0x00 0xFD 0x0202 1 0 0 1 0 1, 5, [0x01]) := by decide
theorem test_rra_UN4 :
    after [0x67, 0x10] (regs 0x10 0x00 0x00 0xFD 0x0200 0 0 0 1 0 1) [(0x0010, 0x02)] [0x0010] =
      some (regs 0x91 0x00 0x00 0xFD 0x0202 1 0 0 1 0 0, 5, [0x81]) := by decide
theorem test_sax_UN5 :
    after [0x87, 0x10] (regs 0xF0 0x3C 0x00 0xFD 0x0200 0 0 0 1 0 0) [] [0x0010] =
      some (regs 0xF0 0x3C 0x00 0xFD 0x0202 0 0 0 1 0 0, 3, [0x30]) := by decide
theorem test_lax_UN6 :
    after [0xA7, 0x10] (regs 0x00 0x00 0x00 0xFD 0x0200 0 0 0 1 0 0) [(0x0010, 0x80)] [] =
      some (regs 0x80 0x80 0x00 0xFD 0x0202 1 0 0 1 0 0, 3, []) := by decide
theorem test_lax_UN7 :
    after [0xB3, 0x10] (regs 0x00 0x00 0x01 0xFD 0x0200 0 0 0 1 0 0) [(0x0010, 0xFF), (0x0011, 0x02), (0x0300, 0x00)] [] =
      some (regs 0x00 0x00 0x01 0xFD 0x0202 0 0 0 1 1 0, 6, []) := by decide
theorem test_dcp_UN8 :
    after [0xC7, 0x10] (regs 0x40 0x00 0x00 0xFD 0x0200 0 0 0 1 0 0) [(0x0010, 0x41)] [0x0010] =
      some (regs 0x40 0x00 0x00 0xFD 0x0202 0 0 0 1 1 1, 5, [0x40]) := by decide
theorem test_isc_UN9 :
    after [0xE7, 0x10] (regs 0x10 0x00 0x00 0xFD 0x0200 0 0 0 1 0 1) [(0x0010, 0x0F)] [0x0010] =
      some (regs 0x00 0x00 0x00 0xFD 0x0202 0 0 0 1 1 1, 5, [0x10]) := by decide
theorem test_slo_UN10 :
    after [0x1F, 0xFF, 0x02] (regs 0x00 0x01 0x00 0xFD 0x0200 0 0 0 1 0 0) [(0x0300, 0x80)] [0x0300] =
      some (regs 0x00 0x01 0x00 0xFD 0x0203 0 0 0 1 1 1, 7, [0x00]) := by decide
theorem test_anc_UN11 :
    after [0x0B, 0x80] (regs 0xFF 0x00 0x00 0xFD 0x0200 0 0 0 1 0 0) [] [] =
      some (regs 0x80 0x00 0x00 0xFD 0x0202 1 0 0 1 0 1, 2, []) := by decide
theorem test_anc_UN12 :
    after [0x2B, 0x7F] (regs 0xFF 0x00 0x00 0xFD 0x0200 0 0 0 1 0 1) [] [] =
      some (regs 0x7F 0x00 0x00 0xFD 0x0202 0 0 0 1 0 0, 2, []) := by decide
theorem test_alr_UN13 :
    after [0x4B, 0x03] (regs 0xFF 0x00 0x00 0xFD 0x0200 0 0 0 1 0 0) [] [] =
      some (regs 0x01 0x00 0x00 0xFD 0x0202 0 0 0 1 0 1, 2, []) := by decide
theorem test_arr_UN14 :
    after [0x6B, 0xFF] (regs 0xC0 0x00 0x00 0xFD 0x0200 0 0 0 1 0 1) [] [] =
      some (regs 0xE0 0x00 0x00 0xFD 0x0202 1 0 0 1 0 1, 2, []) := by decide
theorem test_arr_UN15 :
    after [0x6B, 0xFF] (regs 0x40 0x00 0x00 0xFD 0x0200 0 0 0 1 0 0) [] [] =
      some (regs 0x20 0x00 0x00 0xFD 0x0202 0 1 0 1 0 0, 2, []) := by decide
theorem test_xaa_UN16 :
    after [0x8B, 0xFF] (regs 0x00 0xFF 0x00 0xFD 0x0200 0 0 0 1 0 0) [] [] =
      some (regs 0xEE 0xFF 0x00 0xFD 0x0202 1 0 0 1 0 0, 2, []) := by decide
theorem test_xaa_UN17 :
    after [0x8B, 0x0F] (regs 0x01 0x33 0x00 0xFD 0x0200 0 0 0 1 0 0) [] [] =
      some (regs 0x03 0x33 0x00 0xFD 0x0202 0 0 0 1 0 0, 2, []) := by decide
theorem test_lxa_UN18 :
    after [0xAB, 0xFF] (regs 0x00 0x00 0x00 0xFD 0x0200 0 0 0 1 0 0) [] [] =
      some (regs 0xEE 0xEE 0x00 0xFD 0x0202 1 0 0 1 0 0, 2, []) := by decide
theorem test_axs_UN19 :
    after [0xCB, 0x01] (regs 0xFF 0x0F 0x00 0xFD 0x0200 0 0 0 1 0 0) [] [] =
      some (regs 0xFF 0x0E 0x00 0xFD 0x0202 0 0 0 1 0 1, 2, []) := by decide
theorem test_axs_UN20 :
    after [0xCB, 0x10] (regs 0x0F 0x0F 0x00 0xFD 0x0200 0 0 0 1 0 0) [] [] =
      some (regs 0x0F 0xFF 0x00 0xFD 0x0202 1 0 0 1 0 0, 2, []) := by decide
theorem test_usbc_UN21 :
    after [0xEB, 0x01] (regs 0x03 0x00 0x00 0xFD 0x0200 0 0 0 1 0 1) [] [] =
      some (regs 0x02 0x00 0x00 0xFD 0x0202 0 0 0 1 0 1, 2, []) := by decide
theorem test_sha_UN23 :
    after [0x9F, 0xFF, 0x02] (regs 0xFF 0xFF 0x01 0xFD 0x0200 0 0 0 1 0 0) [] [0x0300] =
      some (regs 0xFF 0xFF 0x01 0xFD 0x0203 0 0 0 1 0 0, 5, [0x03]) := by decide
theorem test_shx_UN24 :
    after [0x9E, 0xFF, 0x02] (regs 0x00 0x01 0x01 0xFD 0x0200 0 0 0 1 0 0) [] [0x0100, 0x0300] =
      some (regs 0x00 0x01 0x01 0xFD 0x0203 0 0 0 1 0 0, 5, [0x01, 0x00]) := by decide
theorem test_shy_UN25 :
    after [0x9C, 0x00, 0x03] (regs 0x00 0x02 0x07 0xFD 0x0200 0 0 0 1 0 0) [] [0x0302] =
      some (regs 0x00 0x02 0x07 0xFD 0x0203 0 0 0 1 0 0, 5, [0x04]) := by decide
theorem test_sha_UN26 :
    after [0x93, 0x10] (regs 0x0F 0x07 0x00 0xFD 0x0200 0 0 0 1 0 0) [(0x0010, 0x00), (0x0011, 0x05)] [0x0500] =
      some (regs 0x0F 0x07 0x00 0xFD 0x0202 0 0 0 1 0 0, 6, [0x06]) := by decide
theorem test_tas_UN27 :
    after [0x9B, 0x00, 0x03] (regs 0xF3 0x3F 0x00 0xFD 0x0200 0 0 0 1 0 0) [] [0x0300] =
      some (regs 0xF3 0x3F 0x00 0x33 0x0203 0 0 0 1 0 0, 5, [0x00]) := by decide
theorem test_las_UN28 :
    after [0xBB, 0x00, 0x03] (regs 0x00 0x00 0x00 0xF0 0x0200 0 0 0 1 0 0) [(0x0300, 0x8F)] [] =
      some (regs 0x80 0x80 0x00 0x80 0x0203 1 0 0 1 0 0, 4, []) := by decide
theorem test_nop_UN35 :
    after [0x1C, 0xFF, 0x02] (regs 0x00 0x01 0x00 0xFD 0x0200 0 0 0 1 0 0) [] [] =
      some (regs 0x00 0x01 0x00 0xFD 0x0203 0 0 0 1 0 0, 5, []) := by decide

theorem test_jam_UN29 :
    after [0x02] (regs 0x00 0x00 0x00 0xFD 0x0200 0 0 0 1 0 0) [] [] =
      some ({ regs 0x00 0x00 0x00 0xFD 0x0201 0 0 0 1 0 0 with jammed := true }, 2, []) := by decide

/-! ### Interrupts (vectors EX1, EX2, EX4, EX6, EX8) -/

/-- Vector bytes 0x9000 for NMI. -/
def nmiAt9000 : List (Nat × Byte) := [(0xFFFA, 0x00), (0xFFFB, 0x90)]

theorem test_nmi_EX1 :
    after [0xEA] { regs 0x00 0x00 0x00 0xFD 0x0200 1 0 0 0 0 1 with nmiPending := true } nmiAt9000
        [0x01FD, 0x01FC, 0x01FB] =
      some (regs 0x00 0x00 0x00 0xFA 0x9000 1 0 0 1 0 1, 7, [0x02, 0x00, 0xA1]) := by decide
theorem test_nmi_ignores_I_EX2 :
    after [0xEA] { regs 0x00 0x00 0x00 0xFD 0x0200 0 0 0 1 0 0 with nmiPending := true } nmiAt9000 [0x01FB] =
      some (regs 0x00 0x00 0x00 0xFA 0x9000 0 0 0 1 0 0, 7, [0x24]) := by decide
theorem test_nmi_stack_wraps_EX6 :
    after [0xEA] { regs 0x00 0x00 0x00 0x01 0x0200 0 0 0 1 0 0 with nmiPending := true } nmiAt9000
        [0x0101, 0x0100, 0x01FF] =
      some (regs 0x00 0x00 0x00 0xFE 0x9000 0 0 0 1 0 0, 7, [0x02, 0x00, 0x24]) := by decide
theorem test_jammed_EX8 :
    after [0xEA] { regs 0x00 0x00 0x00 0xFD 0x0200 0 0 0 1 0 0 with nmiPending := true, jammed := true } [] [] =
      some ({ regs 0x00 0x00 0x00 0xFD 0x0200 0 0 0 1 0 0 with nmiPending := true, jammed := true }, 2, []) := by
  decide

/-- `after` with the frame IRQ asserted. -/
def afterIrq (bytes : List Byte) (c : Cpu) (mem : List (Nat × Byte)) : Option (Cpu × Nat) :=
  match cpuStep { placed bytes c mem with apu := { Apu.init with frameIrq := true } } with
  | .next t => some (t.cpu, t.cpuReturn)
  | .fault _ => none
  | .refused _ => none

theorem test_irq_EX3 :
    afterIrq [0xEA] (regs 0x00 0x00 0x00 0xFD 0x0200 0 0 0 0 0 0) [(0xFFFE, 0x34), (0xFFFF, 0x92)] =
      some (regs 0x00 0x00 0x00 0xFA 0x9234 0 0 0 1 0 0, 7) := by decide
theorem test_irq_masked_EX4 :
    afterIrq [0xEA] (regs 0x00 0x00 0x00 0xFD 0x0200 0 0 0 1 0 0) [] =
      some (regs 0x00 0x00 0x00 0xFD 0x0201 0 0 0 1 0 0, 2) := by decide

/-! ### PPU registers and address space (vectors PR1 to PR34 and the index tables of 95_test_vectors.md, part 3) -/

/-- Writes in order. -/
def writes (l : List (Addr × Byte)) (s : State) : State := l.foldl (fun s p => memWrite p.1 p.2 s) s

theorem test_ppuaddr_PR2 :
    (writes [(0x2006, 0x21), (0x2006, 0x08)] State.reset).ppu.v = 0x2108#15 := by decide
theorem test_ppudata_buffer_PR7_PR8 :
    let s := writes [(0x2006, 0x21), (0x2006, 0x08), (0x2007, 0x55), (0x2007, 0x66), (0x2006, 0x21), (0x2006, 0x08)]
      State.reset
    let r := memRead 0x2007 s
    r.1 = 0x00#8 ∧ (memRead 0x2007 r.2).1 = 0x55#8 := by decide
theorem test_palette_alias_PR12 :
    (writes [(0x3F06, 0x3F), (0x3456, 0x10), (0x2007, 0xFF)] State.reset).ppu.palette = [(0, 0x3F#6)] := by decide
theorem test_scroll_PR23_PR24 :
    let p := (writes [(0x2000, 0x03), (0x2005, 0x7D), (0x2005, 0x5E)] State.reset).ppu
    p.t = 0x6D6F#15 ∧ p.x = 5#3 ∧ p.w = false := by decide
theorem test_oamdata_wraps_PR30_PR31 :
    let p := (writes [(0x2003, 0xFE), (0x2004, 0x11), (0x2004, 0x22), (0x2004, 0x33)] State.reset).ppu
    p.oam.read 0xFF = 0x22#8 ∧ p.oam.read 0x00 = 0x33#8 ∧ p.oamAddr = 0x01#8 := by decide
theorem test_status_PRS :
    let s := { State.reset with ppu := { Ppu.init with vblank := true, sprite0Hit := true, w := true } }
    let r := memRead 0x3FFA s
    r.1 = 0xC0#8 ∧ r.2.ppu.w = false ∧ (memRead 0x2002 r.2).1 = 0x40#8 := by decide
theorem test_nametable_index :
    ntIndex .horizontal 0x2400#14 = 0x000 ∧ ntIndex .vertical 0x2400#14 = 0x400 ∧
      ntIndex .horizontal 0x2800#14 = 0x400 ∧ ntIndex .vertical 0x2800#14 = 0x000 ∧
      ntIndex .horizontal 0x3EFF#14 = 0x6FF ∧ ntIndex .vertical 0x2FFF#14 = 0x7FF := by decide
theorem test_palette_index :
    palIndex 0x3F10#14 = 0 ∧ palIndex 0x3F11#14 = 17 ∧ palIndex 0x3F1C#14 = 12 ∧ palIndex 0x3FFF#14 = 31 := by decide

/-! ### PPU pipeline (vectors PP6 to PP13) -/

theorem test_reload_queue_PP6 :
    { Ppu.init with patLo := 0x41, patHi := 0xC2, atLatch := 1 }.reloadQueue.bgQueue = 0x0000000067444465#64 := by decide
theorem test_attribute_address_PP7 : { Ppu.init with v := 0x2108 }.attrAddr = 0x23D2#14 := by decide
theorem test_increment_x_PP8 : incrementX 0x001F#15 = 0x0400#15 := by decide
theorem test_increment_y_PP9_to_PP11 :
    incrementY 0x7000#15 = 0x0020#15 ∧ incrementY 0x73A0#15 = 0x0800#15 ∧ incrementY 0x73E0#15 = 0x0000#15 := by decide
theorem test_copies_PP12_PP13 : copyX 0x7FFF#15 0#15 = 0x7BE0#15 ∧ copyY 0x7FFF#15 0#15 = 0x041F#15 := by decide

/-! ### APU (vectors of 95_test_vectors.md, part 3) -/

theorem test_mixer :
    mixSample 0 0 0 0 = 0 ∧ mixSample 1 0 0 0 = 381 ∧ mixSample 30 0 0 0 = 8469 ∧ mixSample 0 15 0 0 = 8074 ∧
      mixSample 0 0 15 0 = 5715 ∧ mixSample 0 0 0 64 = 11539 ∧ mixSample 30 15 15 127 = 32766 := by decide
theorem test_pulse_AP2 :
    let u := (writes [(0x4015, 0x01), (0x4000, 0xBF), (0x4002, 0xFD), (0x4003, 0x00)] State.reset).apu
    u.pulse1.period = 253#11 ∧ u.pulse1.length = 10#8 ∧ u.clockTimers.clockTimers.pulse1.seq = 1#3 := by decide
theorem test_sweep_AP8 :
    let u := (writes [(0x4001, 0x89), (0x4003, 0x01), (0x4005, 0x89), (0x4007, 0x01)] State.reset).apu
    u.pulse1.sweepTarget true = 127 ∧ u.pulse2.sweepTarget false = 128 := by decide
theorem test_length_load_AP10 :
    (writes [(0x4015, 0x01), (0x4003, 0xF8)] State.reset).apu.pulse1.length = 30#8 ∧
      (writes [(0x4003, 0xF8)] State.reset).apu.pulse1.length = 0#8 := by decide
theorem test_noise_AP7 :
    ({ Noise.init with lfsr := 1 }).shifted = 0x4000#15 ∧ ({ Noise.init with lfsr := 0x4000 }).shifted = 0x2000#15 := by
  decide
theorem test_dmc_AP12 :
    let d := (writes [(0x4012, 0x40), (0x4013, 0x02)] State.reset).apu.dmc
    d.sampleAddr = 0xD000#16 ∧ d.sampleLen = 33#12 := by decide

/-! ### Console (vectors CN5 to CN7, RM2, RM6; S1) -/

/-- The bytes of `n` reads of 0x4016. -/
def padReads : Nat → State → List Byte
  | 0, _ => []
  | n + 1, s => (memRead 0x4016 s).1 :: padReads n (memRead 0x4016 s).2

/-- A state whose pad holds `b`. -/
def withPad (b : Byte) : State := { State.reset with console := { Console.init with pad := b } }

theorem test_pad_CN5 :
    padReads 9 (writes [(0x4016, 1), (0x4016, 0)] (withPad 0x88)) = [0, 0, 0, 1, 0, 0, 0, 1, 1] := by decide
theorem test_pad_strobe_held_CN6 : padReads 3 (writes [(0x4016, 1)] (withPad 0x01)) = [1, 1, 1] := by decide
theorem test_pad_encode_CN7 :
    padEncode PadMap.standard { Input.none with up := true, face0 := true, shoulder1 := true } = 0x11#8 := by decide
theorem test_set_button_state_R834 :
    (setButtonState { Input.none with down := true, select := true } State.reset).console.pad = 0x24#8 := by decide
theorem test_load_rom_RM2_RM6 :
    loadRom [0x4E, 0x45, 0x53, 0x1A, 1, 0] State.reset = (some .cartridgeParse, State.reset) ∧
      loadRom [0x4E, 0x45, 0x53, 0x1A, 0, 0, 0, 0, 0, 0, 0, 0, 0, 0, 0, 0] State.reset =
        (some .cartridgeParse, State.reset) := by decide
theorem test_ram_mirror_S1 :
    let s := memWrite 0x1FFF 0x5A State.reset
    (memRead 0x07FF s).1 = 0x5A#8 ∧ (memRead 0x0FFF s).1 = 0x5A#8 ∧ (memRead 0x17FF s).1 = 0x5A#8 := by decide

/-- Whether a step answers a next state, and the count it returns. -/
def stepReturns (s : State) : Option Nat :=
  match step s with
  | .next t => some t.consoleReturn
  | .fault _ => none
  | .refused _ => none

theorem test_withFetchWord_runs_first :
    stepReturns (State.reset.withFetchWord 8 0xEA) = some 2 ∧
      (State.reset.withFetchWord 24 0x0200AD).cpu.pc = 0x0000#16 ∧
      (memRead 0x0001 (State.reset.withFetchWord 24 0x1234AD)).1 = 0x34#8 := by decide

/-! ### Witnesses: for each statement with hypotheses, a state and operands that meet them together -/

/-- A state with a blank cartridge, loaded, right after construction. -/
def loadedState : State := placed [] Cpu.init []

/-- The state `s` with its PPU changed. -/
def withPpu (f : Ppu → Ppu) : State := { loadedState with ppu := f loadedState.ppu }

theorem witness_loadedState_wf : Wf loadedState where
  ram := by decide
  mapper := ⟨by decide, by decide, by decide⟩
  ppu := ⟨by decide, by decide, by decide, by decide, by decide, by decide, by decide, by decide⟩
  apu := ⟨⟨by decide, by decide, by decide, by decide⟩, by decide, by decide⟩

theorem witness_loadedState_inv : Inv loadedState where
  wf := witness_loadedState_wf
  cartridge := by decide
  clock := ⟨by decide, by decide⟩
  inStep := ⟨by decide, by decide⟩
  noDma := by decide

theorem witness_DecoderTakesEveryOpcode :
    ∃ (bytes rest : List Byte) (i : Instr), decode bytes = .ok (i, rest) :=
  ⟨[0xA9#8, 0x42#8, 0xEA#8], [0xEA#8], .ldaImm 0x42#8, rfl⟩

/-- LDA #$42 at the last two bytes of work RAM and the byte after them in the mirror below. -/
def ldaState : State := placed [0xA9, 0x42] (regs 0x00 0x00 0x00 0xFD 0x1FFD 0 0 0 1 0 0) []

theorem witness_StepRunsTheDecodedInstruction :
    (ldaState.console.loaded = true ∧ ldaState.cpu.jammed = false ∧ ldaState.cpu.nmiPending = false ∧
      (irqLine ldaState && !ldaState.cpu.i) = false) ∧
    (PlainAddr ldaState.cpu.pc ∧ PlainAddr (ldaState.cpu.pc + 1#16) ∧ PlainAddr (ldaState.cpu.pc + 2#16)) ∧
    decode [(memRead ldaState.cpu.pc ldaState).1, (memRead (ldaState.cpu.pc + 1#16) ldaState).1,
      (memRead (ldaState.cpu.pc + 2#16) ldaState).1] = .ok (.ldaImm 0x42#8, [0x00#8]) ∧
    (∃ t, exec (.ldaImm 0x42#8) (clearStalls ldaState) = .next t) ∧
    ∃ t, exec (fetchInstr (clearStalls ldaState)).1 (fetchInstr (clearStalls ldaState)).2 = .next t :=
  ⟨by decide, ⟨.inl (by decide), .inl (by decide), .inl (by decide)⟩, by rfl, ⟨_, rfl⟩, ⟨_, rfl⟩⟩

/-- One state for each outcome of the poll. -/
def pollState (jammed nmi irq i : Bool) : State :=
  { loadedState with
    cpu := { Cpu.init with jammed := jammed, nmiPending := nmi, i := i }
    apu := { Apu.init with frameIrq := irq } }

theorem witness_InterruptPoll :
    (pollState true true true false).cpu.jammed = true ∧
    ((pollState false true true false).cpu.jammed = false ∧ (pollState false true true false).cpu.nmiPending = true) ∧
    (let s := pollState false false true false
     s.cpu.jammed = false ∧ s.cpu.nmiPending = false ∧
       (s.apu.frameIrq || s.apu.dmc.irqFlag || mapperIrq s.mapper) = true ∧ s.cpu.i = false) ∧
    (let s := pollState false false true true
     s.cpu.jammed = false ∧ s.cpu.nmiPending = false ∧ s.cpu.i = true) ∧
    (let s := pollState false false false false
     s.cpu.jammed = false ∧ s.cpu.nmiPending = false ∧
       (s.apu.frameIrq || s.apu.dmc.irqFlag || mapperIrq s.mapper) = false) := by decide

theorem witness_ExceptionEntryFrame :
    (0xFFFA#16 = 0xFFFA#16 ∨ 0xFFFA#16 = 0xFFFE#16) ∧ (0xFFFE#16 = 0xFFFA#16 ∨ 0xFFFE#16 = 0xFFFE#16) ∧
      loadedState.ram.wf 0x800 = true := by decide

theorem witness_WorkRam :
    (0x0000#16).toNat < 0x2000 ∧ (0x1FFF#16).toNat < 0x2000 ∧ loadedState.ram.wf 0x800 = true := by decide

theorem witness_PpuRegistersRepeat :
    (0x2000 ≤ (0x2000#16).toNat ∧ (0x2000#16).toNat ≤ 0x3FFF ∧
      (0x2000#16).toNat = (0x2000#16).toNat % 8 + 0x2000) ∧
    (0x2000 ≤ (0x3FFF#16).toNat ∧ (0x3FFF#16).toNat ≤ 0x3FFF ∧
      (0x2007#16).toNat = (0x3FFF#16).toNat % 8 + 0x2000) := by decide

theorem witness_ReadSideEffects :
    (QuietAddr 0x0000#16 ∧ QuietAddr 0x2000#16 ∧ QuietAddr 0x4014#16 ∧ QuietAddr 0x4017#16 ∧ QuietAddr 0xFFFF#16) ∧
    (0x2000 ≤ (0x2002#16).toNat ∧ (0x3FFA#16).toNat ≤ 0x3FFF ∧ (0x3FFA#16).toNat % 8 = 2) ∧
    (0x2000 ≤ (0x2007#16).toNat ∧ (0x3FFF#16).toNat ≤ 0x3FFF ∧ (0x3FFF#16).toNat % 8 = 7) ∧
    (0x4015#16).toNat = 0x4015 ∧ (0x4016#16).toNat = 0x4016 := by
  unfold QuietAddr
  decide

theorem witness_CartridgeWindow :
    ∃ m, loadedState.mapper = some (.fixed m) ∧ m.prgBanks = 1 ∧ 0x8000 ≤ (0x8000#16).toNat ∧
      0x8000 ≤ (0xFFFF#16).toNat ∧ (0x4018 ≤ (0x4018#16).toNat ∧ (0x7FFF#16).toNat < 0x8000) ∧
      (0x4000 ≤ (0x4000#16).toNat ∧ (0x4014#16).toNat ≤ 0x4014) ∧ (0x4017#16).toNat = 0x4017 :=
  ⟨_, rfl, by decide⟩

theorem witness_PointerAddresses :
    let x := loadedState.cpu.x
    let z := 0xFF#8
    ((0x00FF#16).toNat = (z.toNat + x.toNat) % 256 ∧ (0x0000#16).toNat = (z.toNat + x.toNat + 1) % 256) ∧
    ((0x00FF#16).toNat = z.toNat ∧ (0x0000#16).toNat = (z.toNat + 1) % 256) ∧
    (0x0200#16).toNat = (0x02FF#16).toNat / 256 * 256 + ((0x02FF#16).toNat + 1) % 256 := by decide

theorem witness_OperandReadFrame :
    (∀ p, Mode.zp 0x10#8 ≠ .ind p) ∧ QuietAddr (operand (.zp 0x10#8) loadedState).1.ea :=
  ⟨fun _ => nofun, by unfold QuietAddr; decide⟩

/-- One instruction for each mnemonic that a result statement names. -/
theorem witness_results :
    (Instr.ldaImm 0).op = .lda ∧ (Instr.ldxImm 0).op = .ldx ∧ (Instr.ldyImm 0).op = .ldy ∧ (Instr.laxZp 0).op = .lax ∧
    (Instr.lasAby 0).op = .las ∧ (Instr.staZp 0).op = .sta ∧ (Instr.stxZp 0).op = .stx ∧ (Instr.styZp 0).op = .sty ∧
    (Instr.saxZp 0).op = .sax ∧ (Instr.adcImm 0).op = .adc ∧ (Instr.sbcImm 0).op = .sbc ∧ (Instr.usbcImm 0).op = .usbc ∧
    (Instr.andImm 0).op = .and ∧ (Instr.oraImm 0).op = .ora ∧ (Instr.eorImm 0).op = .eor ∧ (Instr.cmpImm 0).op = .cmp ∧
    (Instr.cpxImm 0).op = .cpx ∧ (Instr.cpyImm 0).op = .cpy ∧ (Instr.bitZp 0).op = .bit ∧ (Instr.sloZp 0).op = .slo ∧
    (Instr.rlaZp 0).op = .rla ∧ (Instr.sreZp 0).op = .sre ∧ (Instr.rraZp 0).op = .rra ∧ (Instr.dcpZp 0).op = .dcp ∧
    (Instr.iscZp 0).op = .isc ∧ (Instr.shaAby 0).op = .sha ∧ (Instr.shxAby 0).op = .shx ∧ (Instr.shyAbx 0).op = .shy ∧
    (Instr.tasAby 0).op = .tas := by decide

theorem witness_MemoryShiftAndCountResults :
    ((Instr.aslZp 0).op = .asl ∧ (Instr.aslZp 0).mode ≠ .acc) ∧ ((Instr.lsrZp 0).op = .lsr ∧ (Instr.lsrZp 0).mode ≠ .acc) ∧
    ((Instr.rolZp 0).op = .rol ∧ (Instr.rolZp 0).mode ≠ .acc) ∧ ((Instr.rorZp 0).op = .ror ∧ (Instr.rorZp 0).mode ≠ .acc) ∧
    (Instr.incZp 0).op = .inc ∧ (Instr.decZp 0).op = .dec := by decide

theorem witness_FlagAndNopResults :
    (Instr.nopZp .b04 0).op = .nop ∧ (Instr.nopZp .b04 0).mode ≠ .imp ∧
      (Instr.nopImm .b80 0).op = .nop ∧ (Instr.nopImm .b80 0).mode ≠ .imp := by decide

/-- A store frame: the address stored to is plain, work RAM is in canonical form. -/
theorem witness_StoreFrame :
    PlainAddr (operand (.abs 0x1FFF#16) loadedState).1.ea ∧ PlainAddr (operand (.abs 0x4018#16) loadedState).1.ea ∧
      loadedState.ram.wf 0x800 = true :=
  ⟨.inl (by decide), .inr (by decide), by decide⟩

theorem witness_StackPrimitives :
    (pollState false false false false).ram.wf 0x800 = true ∧
      ({ Cpu.init with s := 0#8 } : Cpu).s = 0#8 ∧ ({ Cpu.init with s := 0xFF#8 } : Cpu).s = 0xFF#8 := by decide

theorem witness_JumpAndReturnResults :
    loadedState.ram.wf 0x800 = true ∧ ∃ t, exec (.jsrAbs 0x1234#16) loadedState = .next t := ⟨by decide, _, rfl⟩

theorem witness_BrkResult : loadedState.ram.wf 0x800 = true ∧ ∃ t, exec .brk loadedState = .next t := ⟨by decide, _, rfl⟩

theorem witness_CallsReturn : loadedState.ram.wf 0x800 = true := by decide

theorem witness_JamResults :
    loadedState.cfg.jamPolicy = .halt ∧
      ({ loadedState with cfg := { Params.standard with jamPolicy := .nop } } : State).cfg.jamPolicy = .nop ∧
      (pollState true false false false).cpu.jammed = true := by decide

/-- A cartridge of one PRG bank and one bank of CHR ROM, both blank. -/
def romCartridge : FixedMapper := { prgBanks := 1, prg := [], chrBanks := 1, chr := [], mirroring := .vertical }

theorem witness_EveryInstructionCompletes :
    State.reset.mapper = none ∧ (∃ m, loadedState.mapper = some (.fixed m)) ∧
      ({ loadedState with mapper := some (.fixed romCartridge) } : State).mapper = some (.fixed romCartridge) ∧
      romCartridge.chrBanks ≠ 0 :=
  ⟨rfl, ⟨_, rfl⟩, rfl, by decide⟩

theorem witness_FlagWriters_RegisterWriters :
    (∃ t, exec (.staZp 0x10#8) loadedState = .next t) ∧ (∃ t, exec (.aslZp 0x10#8) loadedState = .next t) ∧
    (Instr.staZp 0x10#8).op ∉ [Mnemonic.adc, .sbc, .cmp, .cpx, .cpy, .asl, .lsr, .rol, .ror, .clc, .sec, .plp, .rti] ∧
    (Instr.staZp 0x10#8).op ∈ [Mnemonic.sta, .stx, .sty] ∧ (Instr.staZp 0x10#8).op ∉ [Mnemonic.sed, .cld, .plp, .rti] ∧
    (Instr.aslZp 0x10#8).op ∈ [Mnemonic.asl, .lsr, .rol, .ror] ∧ (Instr.aslZp 0x10#8).mode ≠ .acc :=
  ⟨⟨_, rfl⟩, ⟨_, rfl⟩, by decide⟩

/-- The PPU at a position. -/
def ppuAt (line dot : Nat) : Ppu := { Ppu.init with scanline := line, dot := dot }

theorem witness_ScrollAndAddressWrites :
    (withPpu fun p => { p with w := false }).ppu.w = false ∧ (withPpu fun p => { p with w := true }).ppu.w = true ∧
    (∀ line ∈ [0, 239, 261], ({ ppuAt line 257 with mask := 8#8 } : Ppu).renderLine = true) ∧ (ppuAt 0 257).dot = 257 ∧
    (let p : Ppu := { ppuAt 261 280 with mask := 0x10#8 }
     p.rendering = true ∧ p.scanline = 261 ∧ 280 ≤ p.dot ∧ p.dot ≤ 304) ∧
    (let p : Ppu := { ppuAt 261 304 with mask := 0x10#8 }
     p.rendering = true ∧ p.scanline = 261 ∧ 280 ≤ p.dot ∧ p.dot ≤ 304) ∧ (ppuAt 0 257).rendering = false := by
  decide

theorem witness_StatusAndDataReads :
    (withPpu fun p => { p with v := 0x7EFF#15 }).ppu.v.toNat % 0x4000 < 0x3F00 ∧
      0x3F00 ≤ (withPpu fun p => { p with v := 0x3F00#15 }).ppu.v.toNat % 0x4000 ∧
      0x3F00 ≤ (withPpu fun p => { p with v := 0x7FFF#15 }).ppu.v.toNat % 0x4000 := by decide

theorem witness_PpuMemoryHoldsWrites :
    (∃ m, loadedState.mapper = some (.fixed m)) ∧ Wf loadedState ∧
    (let a := fun v : BitVec 15 => (BitVec.ofNat 14 v.toNat).toNat
     a 0x1FFF#15 < 0x2000 ∧ (0x2000 ≤ a 0x2000#15 ∧ a 0x2000#15 < 0x3F00) ∧ (0x2000 ≤ a 0x3EFF#15 ∧ a 0x3EFF#15 < 0x3F00) ∧
       0x3F00 ≤ a 0x3F00#15 ∧ 0x3F00 ≤ a 0x7FFF#15) :=
  ⟨⟨_, rfl⟩, witness_loadedState_wf, by decide⟩

theorem witness_PpuCounters :
    ((ppuAt 0 339).dot ≤ 340 ∧ (ppuAt 0 339).scanline ≤ 261 ∧ (ppuAt 0 339).dot < 340) ∧
    ((ppuAt 260 340).dot = 340 ∧ (ppuAt 260 340).scanline < 261) ∧
    ((ppuAt 261 340).dot = 340 ∧ (ppuAt 261 340).scanline = 261) := by decide

theorem witness_VblankAndNmi :
    ((ppuAt 241 1).scanline = 241 ∧ (ppuAt 241 1).dot = 1) ∧ ((ppuAt 261 1).scanline = 261 ∧ (ppuAt 261 1).dot = 1) ∧
    ¬((ppuAt 241 2).scanline = 241 ∧ (ppuAt 241 2).dot = 1) ∧ (ppuAt 241 0).dot ≠ 1 ∧
    ((ppuAt 240 1).scanline ≠ 241 ∧ (ppuAt 240 1).scanline ≠ 261) := by decide

theorem witness_ppuAt_wf (line dot : Nat) (hl : line ≤ 261) (hd : dot ≤ 340) : PpuWf (ppuAt line dot) :=
  ⟨rfl, rfl, rfl, rfl, rfl, hd, hl, Nat.zero_le 8⟩

theorem witness_OnePixelPerVisibleDot :
    PpuWf (ppuAt 239 256) ∧ ¬((ppuAt 239 256).scanline = 261 ∧ (ppuAt 239 256).dot = 340) ∧
    (1 ≤ (ppuAt 0 1).dot ∧ (ppuAt 239 256).dot ≤ 256 ∧ (ppuAt 239 256).scanline ≤ 239) ∧
    (ppuAt 0 0).dot = 0 ∧ 256 < (ppuAt 0 257).dot ∧ 239 < (ppuAt 240 1).scanline ∧
    (ppuAt 0 1).rendering = false ∧ (ppuAt 0 1).mask.getLsbD 0 = false ∧ 255 < 256 ∧ 239 < 240 :=
  ⟨witness_ppuAt_wf _ _ (by decide) (by decide), by decide⟩

theorem witness_FrameIsFullyDrawn : PpuWf (ppuAt 0 0) ∧ (ppuAt 0 0).dot = 0 ∧ (ppuAt 0 0).scanline = 0 :=
  ⟨witness_ppuAt_wf _ _ (by decide) (by decide), rfl, rfl⟩

/-- With an OAM of zeros every sprite is in range on scanline 0; the eighth kept is sprite 7. -/
theorem witness_SpriteEvaluation :
    7 < 8 ∧ ((List.range 64).filter fun i =>
      decide ((Ppu.init.oam.read (4 * i)).toNat ≤ 0 ∧ 0 - (Ppu.init.oam.read (4 * i)).toNat < 8))[7]? = some 7 := by
  decide

theorem witness_ChannelTimers :
    Pulse.init.timer = 0#11 ∧ Triangle.init.timer = 0#11 ∧ Noise.init.timer = 0#12 ∧ Dmc.init.timer = 0#9 ∧
    2 ≤ Dmc.init.bitsRemaining ∧
    (∀ full, let d : Dmc := { Dmc.init with bitsRemaining := 1, bufferFull := full }
      d.bitsRemaining = 1 ∧ d.bufferFull = full) := by
  decide

theorem witness_FrameSequencer :
    (Apu.init.seqCycle = 0 ∧ Apu.init.seqMode = false) ∧
      ({ Apu.init with seqMode := true } : Apu).seqCycle = 0 ∧ ({ Apu.init with seqMode := true } : Apu).seqMode = true := by
  decide

theorem witness_SampleClockIsExact :
    Params.standard.sampleRate ≤ Params.standard.cpuHz ∧ Apu.init.sampleAcc < Params.standard.cpuHz := by decide

theorem witness_MixerFormula : 30 ≤ 30 ∧ 15 ≤ 15 ∧ 127 ≤ 127 := by decide

/-- A DMC that wants a byte. -/
def dmcState (addr : Addr) (left : BitVec 12) (loop : Bool) : State :=
  { loadedState with apu := { Apu.init with dmc := { Dmc.init with curAddr := addr, bytesRemaining := left, loop := loop } } }

theorem witness_DmcReader :
    (let d := (dmcState 0xFFFF#16 2#12 false).apu.dmc
     d.bufferFull = false ∧ d.bytesRemaining ≠ 0#12 ∧ 0x8000 ≤ d.curAddr.toNat ∧ 1 < d.bytesRemaining.toNat) ∧
    (let d := (dmcState 0x8000#16 1#12 true).apu.dmc
     d.bufferFull = false ∧ 0x8000 ≤ d.curAddr.toNat ∧ d.bytesRemaining = 1#12 ∧ d.loop = true) ∧
    (let d := (dmcState 0x8000#16 1#12 false).apu.dmc
     d.bufferFull = false ∧ 0x8000 ≤ d.curAddr.toNat ∧ d.bytesRemaining = 1#12 ∧ d.loop = false) := by decide

theorem witness_ConsoleStep : loadedState.console.loaded = true ∧ Wf loadedState := ⟨by decide, witness_loadedState_wf⟩

theorem witness_OamDmaCopies :
    loadedState.ppu.oam.wf 256 = true ∧ (0x1F#8).toNat < 0x20 ∧ 0x41 ≤ (0x41#8).toNat ∧ 255 < 256 := by decide

theorem witness_PadReadsInOrder :
    (0xFF#8).getLsbD 0 = true ∧ 7 < 8 ∧ loadedState.cfg.padMap = PadMap.standard := by decide

theorem witness_RunFrameReachesItsTarget :
    Inv loadedState ∧ loadedState.console.loaded = true ∧
      3 * loadedState.console.cycles < loadedState.console.frameTarget3 + 89342 :=
  ⟨witness_loadedState_inv, by decide, by decide⟩

/-- The smallest acceptable image: a header, one PRG bank of zeros, no CHR. -/
def smallImage : List Byte := [0x4E, 0x45, 0x53, 0x1A, 1, 0, 0, 0, 0, 0, 0, 0, 0, 0, 0, 0] ++ List.replicate 16384 0

theorem witness_LoadRomValidates :
    ([] : List Byte).length < 16 ∧
    ¬(smallImage.length < 16 ∨
      ¬(smallImage.getD 0 0#8 = 0x4E#8 ∧ smallImage.getD 1 0#8 = 0x45#8 ∧ smallImage.getD 2 0#8 = 0x53#8 ∧
        smallImage.getD 3 0#8 = 0x1A#8) ∨
      smallImage.length < 16 + (if (smallImage.getD 6 0#8).getLsbD 2 then 512 else 0) +
        16384 * (smallImage.getD 4 0#8).toNat + 8192 * (smallImage.getD 5 0#8).toNat ∨
      smallImage.getD 4 0#8 = 0#8 ∨
      (smallImage.getD 6 0#8).toNat / 16 + (smallImage.getD 7 0#8).toNat / 16 * 16 ≠ 0) ∧
    smallImage.getD 5 0#8 = 0#8 ∧ smallImage.getD 4 0#8 = 1#8 ∧ (if (smallImage.getD 6 0#8).getLsbD 2 then 512 else 0) = 0 := by
  have hl : smallImage.length = 16400 := by
    rw [smallImage, List.length_append, List.length_replicate]
    rfl
  refine ⟨by decide, ?_, rfl, rfl, rfl⟩
  rw [hl]
  decide

theorem witness_SaveAndLoadState :
    loadedState.console.loaded = true ∧ SameCartridge loadedState.mapper loadedState.mapper ∧
      saveState loadedState = .ok (.snapshot stateVersion (snapshotOf loadedState)) ∧
      loadState .malformed loadedState = .ok (some .stateVersionMismatch, loadedState) ∧ stateVersion + 1 ≠ stateVersion :=
  ⟨rfl, ⟨rfl, rfl, rfl, rfl, fun _ => rfl⟩, rfl, rfl, by omega⟩

theorem witness_StepKeepsInvariant : Inv loadedState ∧ (stepReturns loadedState).isSome = true :=
  ⟨witness_loadedState_inv, by decide⟩

theorem witness_StepNeedsACartridge :
    State.reset.console.loaded = false ∧ loadedState.console.loaded = true := by decide

end Sys2Proof.Tests
end

section
/-! The stack family: what a push leaves in memory, and a pull after a push. -/
namespace Sys2Proof.Machine

open Sys2Proof.Safety

/-- R22: S = 0x00 is the bottom of page one. -/
theorem stackAddr_zero : stackAddr 0#8 = 0x0100#16 := rfl

theorem push_devicesKept (v : Byte) (s : State) : DevicesKept s (push v s) := by
  rw [push_eq]
  exact ⟨rfl, rfl, rfl, rfl, rfl, rfl⟩

theorem pull_devicesKept (s : State) : DevicesKept s (pull s).2 := by
  rw [pull_eq]
  exact ⟨rfl, rfl, rfl, rfl, rfl, rfl⟩

theorem pull_ram (s : State) : (pull s).2.ram = s.ram := by rw [pull_eq]

theorem pull_fst (s : State) : (pull s).1 = (memRead (stackAddr (s.cpu.s + 1#8)) s).1 := by
  rw [pull_eq, memRead_ram (stackAddr_le _), ramIndex_stackAddr]

/-- The cell a push wrote reads as the byte pushed. -/
theorem memRead_push_same {s : State} (hwf : s.ram.wf 0x800 = true) (v : Byte) :
    (memRead (stackAddr s.cpu.s) (push v s)).1 = v := by
  rw [memRead_ram (stackAddr_le _), ramIndex_stackAddr, push_eq]
  exact Memory.read_write_same hwf _ v

/-- A push keeps every byte of memory but the one at S: it is one write, and S plays no part in a read. -/
theorem push_memoryKept {s : State} (hwf : s.ram.wf 0x800 = true) (v : Byte) :
    MemoryKept (SameCell (stackAddr s.cpu.s)) s (push v s) := by
  intro a ha hn
  calc (memRead a (push v s)).1
      = (memRead a (memWrite (stackAddr s.cpu.s) v s)).1 := memRead_plain_congr ha rfl rfl rfl
    _ = (memRead a s).1 := memWrite_memoryKept hwf _ v a ha hn

/-- A pull after a push gives the byte back: it reads the cell the push wrote. -/
theorem pull_push_fst {s : State} (hwf : s.ram.wf 0x800 = true) (v : Byte) : (pull (push v s)).1 = v := by
  have hsp : (push v s).cpu.s + 1#8 = s.cpu.s := by
    rw [push_eq]
    exact BitVec.sub_add_cancel s.cpu.s 1#8
  rw [pull_fst, hsp]
  exact memRead_push_same hwf v

/-- A pull after a push restores S, and with it the whole CPU. -/
theorem pull_push_cpu (v : Byte) (s : State) : (pull (push v s)).2.cpu = s.cpu := by
  rw [pull_eq, push_eq]
  simp only [BitVec.sub_add_cancel]

/-- `push_eq`'s CPU, S moved down in plain arithmetic. -/
theorem push_cpu (v : Byte) (s : State) :
    (push v s).cpu = { s.cpu with s := BitVec.ofNat 8 (s.cpu.s.toNat + 255) } := by
  have hs : s.cpu.s - 1#8 = BitVec.ofNat 8 (s.cpu.s.toNat + 255) := by bv_omega
  rw [push_eq, hs]

/-- `pull_eq`'s CPU, S moved up in plain arithmetic. -/
theorem pull_cpu (s : State) : (pull s).2.cpu = { s.cpu with s := BitVec.ofNat 8 (s.cpu.s.toNat + 1) } := by
  have hs : s.cpu.s + 1#8 = BitVec.ofNat 8 (s.cpu.s.toNat + 1) := by bv_omega
  rw [pull_eq, hs]

/-- R22: a push at S = 0x00 writes 0x0100 and leaves S = 0xFF. -/
theorem push_wraps {s : State} (h : s.cpu.s = 0#8) (v : Byte) :
    stackAddr s.cpu.s = 0x0100#16 ∧ (push v s).cpu.s = 0xFF#8 := by
  rw [push_cpu, h]
  exact ⟨stackAddr_zero, rfl⟩

/-- R22: a pull at S = 0xFF reads 0x0100 and leaves S = 0x00. -/
theorem pull_wraps {s : State} (h : s.cpu.s = 0xFF#8) :
    stackAddr (s.cpu.s + 1#8) = 0x0100#16 ∧ (pull s).2.cpu.s = 0x00#8 := by
  rw [pull_cpu, h]
  exact ⟨stackAddr_zero, rfl⟩

/-- Settles O18: a push is one write at S and a pull one read (`push_eq`, `pull_eq`), both in work RAM, and the pull after
a push reads the cell just written. -/
theorem stackPrimitives : Obligations.StackPrimitives := by
  intro v s
  exact ⟨stackAddr_toNat _, push_cpu v s, pull_cpu s, pull_fst s, fun h => push_wraps h v, pull_wraps,
    push_devicesKept v s, pull_devicesKept s, pull_ram s, fun hwf =>
      ⟨memRead_push_same hwf v, push_memoryKept hwf v, pull_push_fst hwf v, pull_push_cpu v s⟩⟩

end Sys2Proof.Machine
end

section
/-! The memory family: the Bus of R70 to R76 region by region, its mirrors, and what each read changes. -/
namespace Sys2Proof.Machine

open Sys2Proof.Config Sys2Proof.Safety

/-! ### Mirrors: flipping an address bit -/

/-- Flipping bits from bit `n` up leaves the `n` bits below them. -/
theorem xor_toNat_mod (a b : Addr) {n : Nat} (h : b.toNat % 2 ^ n = 0) :
    (a ^^^ b).toNat % 2 ^ n = a.toNat % 2 ^ n := by
  rw [BitVec.toNat_xor, Nat.xor_mod_two_pow, h, Nat.xor_zero]

/-- Flipping bits below bit `n` leaves the bits from `n` up. -/
theorem xor_toNat_div (a b : Addr) {n : Nat} (h : b.toNat / 2 ^ n = 0) :
    (a ^^^ b).toNat / 2 ^ n = a.toNat / 2 ^ n := by
  rw [BitVec.toNat_xor, Nat.xor_div_two_pow, h, Nat.xor_zero]

/-- R72: flipping address bits 11 and 12 reaches the same byte of work RAM. -/
theorem memRead_ram_mirror {a b : Addr} (h : a.toNat < 0x2000) (hlow : b.toNat % 2 ^ 11 = 0) (hhigh : b.toNat / 2 ^ 13 = 0)
    (s : State) : memRead a s = memRead (a ^^^ b) s := by
  have hdiv := xor_toNat_div a b hhigh
  have hindex : ramIndex (a ^^^ b) = ramIndex a := xor_toNat_mod a b hlow
  rw [memRead_ram (by omega), memRead_ram (by omega), hindex]

/-! ### Work RAM -/

/-- R61: work RAM is zero at construction. -/
theorem memRead_ram_reset {a : Addr} (h : a.toNat < 0x2000) : (memRead a State.reset).1 = 0#8 := by
  rw [memRead_ram (by omega)]
  exact Store.read_nil Memory.unwritten (ramIndex a)

/-- R72: after a write below 0x2000, the mirrors of its byte read the value written and every other byte reads as before. -/
theorem memRead_memWrite_ram {a b : Addr} (ha : a.toNat < 0x2000) (hb : b.toNat < 0x2000) {s : State}
    (hwf : s.ram.wf 0x800 = true) (v : Byte) :
    (memRead b (memWrite a v s)).1 = if b.toNat % 0x800 = a.toNat % 0x800 then v else (memRead b s).1 := by
  rw [memRead_ram (by omega), memRead_ram (by omega), memWrite_ram (by omega)]
  by_cases hcell : ramIndex b = ramIndex a
  · rw [hcell, Memory.read_write_same hwf]
    exact (if_pos hcell).symm
  · rw [Memory.read_write_other hwf hcell]
    exact (if_neg hcell).symm

/-- Settles O7: a read below 0x2000 is a read of the cell `ramIndex`, a write one of that cell, and the store's laws say what
a read after a write gives. -/
theorem workRam : Obligations.WorkRam := by
  intro a ha
  exact ⟨memRead_ram_reset ha, fun s v => ⟨memRead_ram_mirror ha rfl rfl s, memRead_ram_mirror ha rfl rfl s,
    memRead_plain (.inl ha) s, ⟨_, memWrite_ram (by omega) v s⟩, fun hwf b hb => memRead_memWrite_ram ha hb hwf v⟩⟩

/-! ### The PPU's registers -/

theorem memWrite_ppu {a : Addr} (h : 0x2000 ≤ a.toNat) (h' : a.toNat ≤ 0x3FFF) (v : Byte) (s : State) :
    memWrite a v s = ppuRegWrite (ppuRegister a) v s := by
  rw [memWrite, if_neg (by omega), if_pos h']

/-- Addresses equal modulo 8 select the same register. -/
theorem ppuRegister_congr {a b : Addr} (h : a.toNat % 8 = b.toNat % 8) : ppuRegister a = ppuRegister b :=
  BitVec.eq_of_toNat_eq (by rw [ppuRegister_toNat, ppuRegister_toNat, h])

/-- Settles O8: both addresses select the same register, and an access sees the address through it alone. -/
theorem ppuRegistersRepeat : Obligations.PpuRegistersRepeat := by
  intro a b v s hlow hhigh hb
  have hreg : ppuRegister a = ppuRegister b := ppuRegister_congr (by omega)
  constructor
  · rw [memRead_ppu hlow hhigh, memRead_ppu (by omega) (by omega), hreg]
  · rw [memWrite_ppu hlow hhigh, memWrite_ppu (by omega) (by omega), hreg]

/-! ### The reads that change state -/

theorem ppuRegRead_status {r : BitVec 3} (h : r.toNat = 2) (s : State) : ppuRegRead r s = ppuStatusRead s := by
  simp only [ppuRegRead, h]

theorem ppuRegRead_data {r : BitVec 3} (h : r.toNat = 7) (s : State) : ppuRegRead r s = ppuDataRead s := by
  simp only [ppuRegRead, h]

theorem memRead_ppuStatus {a : Addr} (h : 0x2000 ≤ a.toNat) (h' : a.toNat ≤ 0x3FFF) (hr : a.toNat % 8 = 2) (s : State) :
    memRead a s = ppuStatusRead s := by
  rw [memRead_ppu h h', ppuRegRead_status (by rw [ppuRegister_toNat, hr])]

theorem memRead_ppuData {a : Addr} (h : 0x2000 ≤ a.toNat) (h' : a.toNat ≤ 0x3FFF) (hr : a.toNat % 8 = 7) (s : State) :
    memRead a s = ppuDataRead s := by
  rw [memRead_ppu h h', ppuRegRead_data (by rw [ppuRegister_toNat, hr])]

theorem memRead_apuStatus {a : Addr} (h : a.toNat = 0x4015) (s : State) :
    memRead a s = ((apuStatusRead s.apu).1, { s with apu := (apuStatusRead s.apu).2 }) := by
  rw [memRead, if_neg (by omega), if_neg (by omega), if_pos h]

theorem memRead_pad {a : Addr} (h : a.toNat = 0x4016) (s : State) :
    memRead a s = (s.console.padRead.1, { s with console := s.console.padRead.2 }) := by
  rw [memRead, if_neg (by omega), if_neg (by omega), if_neg (by omega), if_pos h]

/-- R628: a read of the pad shifts its register, unless the strobe is held. -/
theorem Console.padRead_snd (c : Console) :
    c.padRead.2 = { c with padShift := if c.strobe then c.padShift else (c.padShift >>> 1) ||| 0x80#8 } := by
  unfold Console.padRead
  split <;> rfl

/-- Settles O9: `memRead_quiet` for the addresses R75 does not list, and for each it lists the read its register is. -/
theorem readSideEffects : Obligations.ReadSideEffects := by
  intro a s
  refine ⟨fun hquiet => memRead_quiet hquiet s, ?status, ?data, ?apu, ?pad⟩
  case status =>
    intro hlow hhigh hr
    rw [memRead_ppuStatus hlow hhigh hr]
    rfl
  case data =>
    intro hlow hhigh hr
    rw [memRead_ppuData hlow hhigh hr]
    exact ⟨_, rfl⟩
  case apu =>
    intro ha
    rw [memRead_apuStatus ha]
    rfl
  case pad =>
    intro ha
    rw [memRead_pad ha, Console.padRead_snd]

/-! ### Cartridge space and the addresses nothing answers -/

/-- R76: the registers that cannot be read and the unused addresses up to 0x401F read `UNMAPPED_READ`. -/
theorem memRead_unanswered {a : Addr} (h : 0x4000 ≤ a.toNat) (h' : a.toNat ≤ 0x401F)
    (hregs : a.toNat ≤ 0x4014 ∨ 0x4018 ≤ a.toNat) (s : State) : memRead a s = (s.cfg.unmappedRead, s) := by
  rw [memRead, if_neg (by omega), if_neg (by omega), if_neg (by omega), if_neg (by omega), if_neg (by omega), if_pos h']

theorem memRead_secondPad {a : Addr} (h : a.toNat = 0x4017) (s : State) : memRead a s = (0#8, s) := by
  rw [memRead, if_neg (by omega), if_neg (by omega), if_neg (by omega), if_neg (by omega), if_pos h]

section
variable {s : State} {m : FixedMapper}

/-- R91: PRG from 0x8000 on, modulo its length. -/
theorem memRead_prg (hm : s.mapper = some (.fixed m)) {a : Addr} (h : 0x8000 ≤ a.toNat) :
    memRead a s = (m.prg.read ((a.toNat - 0x8000) % (16384 * m.prgBanks)), s) := by
  rw [memRead_cartridge (by omega), hm, mapperCpuRead, if_pos h]
  rfl

/-- R91: a one-bank image appears twice, at 0x8000 and at 0xC000. -/
theorem memRead_prg_mirror (hm : s.mapper = some (.fixed m)) {a : Addr} (h : 0x8000 ≤ a.toNat) (hbanks : m.prgBanks = 1) :
    memRead a s = memRead (a ^^^ 0x4000#16) s := by
  have hdiv := xor_toNat_div a 0x4000#16 (n := 15) rfl
  have hmod := xor_toNat_mod a 0x4000#16 (n := 14) rfl
  have hoffset : (a.toNat - 0x8000) % 16384 = ((a ^^^ 0x4000#16).toNat - 0x8000) % 16384 := by omega
  rw [memRead_prg hm h, memRead_prg hm (by omega), hbanks, hoffset]

/-- R76, R91: from 0x4018 to 0x7FFF neither the Bus nor the baseline Mapper has anything. -/
theorem memRead_belowPrg (hm : s.mapper = some (.fixed m)) {a : Addr} (h : 0x4018 ≤ a.toNat) (h' : a.toNat < 0x8000) :
    memRead a s = (s.cfg.unmappedRead, s) := by
  by_cases hc : 0x4020 ≤ a.toNat
  · rw [memRead_cartridge hc, hm, mapperCpuRead, if_neg (by omega)]
  · exact memRead_unanswered (by omega) (by omega) (.inr h) s

end

/-- Settles O10: one lemma for each region of the cartridge window and of the addresses nothing answers. -/
theorem cartridgeWindow : Obligations.CartridgeWindow := by
  intro a v m s hm
  exact ⟨memRead_prg hm, memRead_prg_mirror hm, memRead_belowPrg hm,
    fun hlow hhigh => memRead_unanswered hlow (by omega) (.inl hhigh) s, fun ha => memRead_secondPad ha s,
    fun ha => memWrite_high ha v s⟩

end Sys2Proof.Machine
end

section
/-! The transfer family: the register loads and the counts by one in plain arithmetic, and an implied instruction that loads
one register. -/
namespace Sys2Proof.Machine

/-- R7 in plain arithmetic: N is set from 128 on. -/
theorem Cpu.setZN_eq (v : Byte) (c : Cpu) :
    c.setZN v = { c with z := decide (v.toNat = 0), n := decide (128 ≤ v.toNat) } := by
  have hz : decide (v = 0#8) = decide (v.toNat = 0) := decide_eq_decide.mpr BitVec.toNat_eq
  have hn : v.getLsbD 7 = decide (128 ≤ v.toNat) := BitVec.msb_eq_decide v
  rw [setZN, hz, hn]

/-- R257, R258: one more, modulo 256. -/
theorem byte_add_one (v : Byte) : v + 1#8 = BitVec.ofNat 8 (v.toNat + 1) := by bv_omega

/-- R259, R260: one less is 255 more, modulo 256. -/
theorem byte_sub_one (v : Byte) : v - 1#8 = BitVec.ofNat 8 (v.toNat + 255) := by bv_omega

/-- R132: PC moves past the one byte before `f` acts on the registers; nothing outside the CPU changes but the cycles. -/
theorem impliedOp_eq (base : Nat) (f : Cpu → Cpu) (s : State) :
    impliedOp base f s =
      .next { s with cpu := f { s.cpu with pc := s.cpu.pc + 1#16 }, cpuReturn := base } := rfl

section
variable {s : State} {v : Cpu → Byte} {r : Byte} (base : Nat) (hr : v { s.cpu with pc := s.cpu.pc + 1#16 } = r)
include hr

/-- An implied instruction that loads A with `r`, a byte of the registers. -/
theorem impliedOp_loadA : impliedOp base (fun c => c.loadA (v c)) s = .next { s with
    cpu := { s.cpu with a := r, z := decide (r.toNat = 0), n := decide (128 ≤ r.toNat), pc := s.cpu.pc + 1#16 }
    cpuReturn := base } := by
  rw [impliedOp_eq, hr, Cpu.loadA, Cpu.setZN_eq]

/-- An implied instruction that loads X with `r`, a byte of the registers. -/
theorem impliedOp_loadX : impliedOp base (fun c => c.loadX (v c)) s = .next { s with
    cpu := { s.cpu with x := r, z := decide (r.toNat = 0), n := decide (128 ≤ r.toNat), pc := s.cpu.pc + 1#16 }
    cpuReturn := base } := by
  rw [impliedOp_eq, hr, Cpu.loadX, Cpu.setZN_eq]

/-- An implied instruction that loads Y with `r`, a byte of the registers. -/
theorem impliedOp_loadY : impliedOp base (fun c => c.loadY (v c)) s = .next { s with
    cpu := { s.cpu with y := r, z := decide (r.toNat = 0), n := decide (128 ≤ r.toNat), pc := s.cpu.pc + 1#16 }
    cpuReturn := base } := by
  rw [impliedOp_eq, hr, Cpu.loadY, Cpu.setZN_eq]

end

/-- Settles O16: each but TXS is an implied load of one register, with a register's byte or with one more or less than it. -/
theorem transferAndCountResults : Obligations.TransferAndCountResults := by
  intro s
  refine ⟨?tax, ?tay, ?txa, ?tya, ?tsx, ?txs, ?inx, ?iny, ?dex, ?dey⟩
  case tax => exact (exec_tax s).trans (impliedOp_loadX 2 rfl)
  case tay => exact (exec_tay s).trans (impliedOp_loadY 2 rfl)
  case txa => exact (exec_txa s).trans (impliedOp_loadA 2 rfl)
  case tya => exact (exec_tya s).trans (impliedOp_loadA 2 rfl)
  case tsx => exact (exec_tsx s).trans (impliedOp_loadX 2 rfl)
  case txs => exact (exec_txs s).trans (impliedOp_eq 2 _ s)
  case inx => exact (exec_inx s).trans (impliedOp_loadX 2 (byte_add_one s.cpu.x))
  case iny => exact (exec_iny s).trans (impliedOp_loadY 2 (byte_add_one s.cpu.y))
  case dex => exact (exec_dex s).trans (impliedOp_loadX 2 (byte_sub_one s.cpu.x))
  case dey => exact (exec_dey s).trans (impliedOp_loadY 2 (byte_sub_one s.cpu.y))

end Sys2Proof.Machine
end

section
/-! The control-flow family: the page of an address and a branch's target in plain arithmetic, and the whole next state of a
branch, taken or not. -/
namespace Sys2Proof.Machine

theorem hi_toNat (w : Addr) : (hi w).toNat = w.toNat / 256 := by
  rw [hi, BitVec.toNat_setWidth, BitVec.toNat_ushiftRight, Nat.shiftRight_eq_div_pow]
  have := w.isLt
  omega

/-- R12 in plain arithmetic: two addresses lie in one page when they are equal but for their low bytes. -/
theorem pageDiffers_eq_false_iff (a b : Addr) : pageDiffers a b = false ↔ a.toNat / 256 = b.toNat / 256 := by
  rw [pageDiffers, bne_eq_false_iff_eq, ← BitVec.toNat_inj, hi_toNat, hi_toNat]

/-- R276: what a taken branch from the next instruction `b` to `a` costs, by the pages of the two. -/
theorem takenCycles_eq (a b : Addr) :
    (if pageDiffers a b then 4 else 3) = if (a.toNat : Int) / 256 = b.toNat / 256 then 3 else 4 := by
  have hpage : pageDiffers a b = false ↔ (a.toNat : Int) / 256 = b.toNat / 256 := by
    rw [pageDiffers_eq_false_iff]
    omega
  cases h : pageDiffers a b with
  | false => exact (if_pos (hpage.mp h)).symm
  | true => exact (if_neg fun he => Bool.noConfusion (h.symm.trans (hpage.mpr he))).symm

/-- R144: the next instruction's address plus the signed offset, modulo 65536. -/
theorem branchTarget_toNat (pc : Addr) (off : Byte) :
    ((pc + 2#16 + sext16 off).toNat : Int) = (pc.toNat + 2 + off.toInt) % 65536 := by
  have hoff : (sext16 off).toInt = off.toInt := BitVec.toInt_signExtend_of_le (by decide)
  have hmod := BitVec.toInt_eq_toNat_cond (sext16 off)
  rw [BitVec.toNat_add, BitVec.toNat_add, BitVec.toNat_ofNat]
  split at hmod <;> omega

section
variable {off : Byte} {s : State} {taken : Cpu → Bool}

/-- R276 for a branch not taken: PC is the next instruction's address. -/
theorem branchOp_notTaken (h : taken { s.cpu with pc := s.cpu.pc + 2#16 } = false) :
    branchOp off taken s = .next { s with cpu := { s.cpu with pc := s.cpu.pc + 2#16 }, cpuReturn := 2 } :=
  if_neg (ne_true_of_eq_false h)

/-- R276 for a branch taken: PC is the target, and the page it lies in decides the cycles. -/
theorem branchOp_taken (h : taken { s.cpu with pc := s.cpu.pc + 2#16 } = true) :
    branchOp off taken s = .next { s with
      cpu := { s.cpu with pc := s.cpu.pc + 2#16 + sext16 off }
      cpuReturn := if pageDiffers (s.cpu.pc + 2#16 + sext16 off) (s.cpu.pc + 2#16) then 4 else 3 } :=
  if_pos h

/-- Both cases of R276 in plain arithmetic, for a condition `b` on the flags and the target of R144. -/
theorem branchOp_eq {b : Bool} {target : Int} (h : taken { s.cpu with pc := s.cpu.pc + 2#16 } = b)
    (ht : (s.cpu.pc.toNat + 2 + off.toInt) % 65536 = target) :
    branchOp off taken s = .next { s with
      cpu := { s.cpu with pc := if b then BitVec.ofInt 16 target else s.cpu.pc + 2#16 }
      cpuReturn := if b then (if target / 256 = (s.cpu.pc + 2#16).toNat / 256 then 3 else 4) else 2 } := by
  cases b with
  | false => exact branchOp_notTaken h
  | true =>
    obtain rfl := (branchTarget_toNat s.cpu.pc off).trans ht
    rw [branchOp_taken h, if_pos rfl, if_pos rfl, BitVec.ofInt_natCast, BitVec.ofNat_toNat, BitVec.setWidth_eq,
      takenCycles_eq]

end

/-- Settles O27: each branch is one flag's test, its value the same before and after PC moves. -/
theorem branchResults : Obligations.BranchResults := by
  intro off s target t
  refine ⟨?bpl, ?bmi, ?bvc, ?bvs, ?bcc, ?bcs, ?bne, ?beq⟩
  case bpl => exact (exec_bpl off s).trans (branchOp_eq rfl rfl)
  case bmi => exact (exec_bmi off s).trans (branchOp_eq rfl rfl)
  case bvc => exact (exec_bvc off s).trans (branchOp_eq rfl rfl)
  case bvs => exact (exec_bvs off s).trans (branchOp_eq rfl rfl)
  case bcc => exact (exec_bcc off s).trans (branchOp_eq rfl rfl)
  case bcs => exact (exec_bcs off s).trans (branchOp_eq rfl rfl)
  case bne => exact (exec_bne off s).trans (branchOp_eq rfl rfl)
  case beq => exact (exec_beq off s).trans (branchOp_eq rfl rfl)

end Sys2Proof.Machine
end

section
/-! The flag and no-operation family: the whole next state of an instruction that reads its operand, and of the NOPs that
have one. -/
namespace Sys2Proof.Machine

open Sys2Proof.Safety

/-- R131, R200: the operand is resolved and read once, `f` acts on the registers with PC past the instruction; nothing else
changes but what the reads change and the cycles, those of R831's class read. -/
theorem readOp_eq {m : Mode} {base : Nat} {penalty : Bool}
    (hcost : ∀ crossed, cost base penalty crossed = readCycles m crossed) (f : Byte → Cpu → Cpu) (s : State) :
    readOp m base penalty f s =
      let r := operand m s
      let v := loadOperand m r.1.ea r.2
      .next { v.2 with
        cpu := f v.1 { s.cpu with pc := s.cpu.pc + BitVec.ofNat 16 m.length }
        cpuReturn := readCycles m r.1.crossed } := by
  simp only [readOp, finish, State.mapCpu, hcost, loadOperand_cpu, operand_cpu]

/-- The cycles of an absolute indexed read: one more when the index crosses a page. -/
theorem cost_abx (a : Addr) (crossed : Bool) : cost 4 true crossed = readCycles (.abx a) crossed := by
  cases crossed <;> rfl

/-- R322: what a NOP runs in every mode but IMP, the one read of its operand and nothing with the byte. -/
theorem exec_nop_operand {i : Instr} (hop : i.op = .nop) (hmode : i.mode ≠ .imp) (s : State) :
    let r := operand i.mode s
    let m := loadOperand i.mode r.1.ea r.2
    exec i s = .next { m.2 with
      cpu := { s.cpu with pc := s.cpu.pc + BitVec.ofNat 16 i.length }, cpuReturn := readCycles i.mode r.1.crossed } := by
  cases i with
  | nopImm k v => exact (exec_nopImm k v s).trans (readOp_eq (fun _ => rfl) Cpu.nopRead s)
  | nopZp k z => exact (exec_nopZp k z s).trans (readOp_eq (fun _ => rfl) Cpu.nopRead s)
  | nopZpx k z => exact (exec_nopZpx k z s).trans (readOp_eq (fun _ => rfl) Cpu.nopRead s)
  | nopAbs a => exact (exec_nopAbs a s).trans (readOp_eq (fun _ => rfl) Cpu.nopRead s)
  | nopAbx k a => exact (exec_nopAbx k a s).trans (readOp_eq (cost_abx a) Cpu.nopRead s)
  | nop | nopImp => exact absurd rfl hmode
  | _ => cases hop

/-- Settles O17: a flag instruction or a NOP without an operand is an implied instruction, a NOP with one is a read. -/
theorem flagAndNopResults : Obligations.FlagAndNopResults := by
  intro s t
  refine ⟨?clc, ?sec, ?cli, ?sei, ?cld, ?sed, ?clv, ?nop, ?nopImp, ?nopOperand⟩
  case clc => exact (exec_clc s).trans (impliedOp_eq 2 _ s)
  case sec => exact (exec_sec s).trans (impliedOp_eq 2 _ s)
  case cli => exact (exec_cli s).trans (impliedOp_eq 2 _ s)
  case sei => exact (exec_sei s).trans (impliedOp_eq 2 _ s)
  case cld => exact (exec_cld s).trans (impliedOp_eq 2 _ s)
  case sed => exact (exec_sed s).trans (impliedOp_eq 2 _ s)
  case clv => exact (exec_clv s).trans (impliedOp_eq 2 _ s)
  case nop => exact (exec_nop s).trans (impliedOp_eq 2 _ s)
  case nopImp => exact fun k => (exec_nopImp k s).trans (impliedOp_eq 2 _ s)
  case nopOperand => exact fun i hop hmode => exec_nop_operand hop hmode s

end Sys2Proof.Machine
end

section
/-! The immediate-combination family: the right shift and rotation of R250 in plain arithmetic, and the whole next state of an
instruction whose operand is its immediate byte. -/
namespace Sys2Proof.Machine

open Sys2Proof.Safety

/-- R250: a right shift halves the byte. -/
theorem byte_shiftRight_one (v : Byte) : v >>> 1 = (shiftedRight v).1 := by
  refine BitVec.eq_of_toNat_eq ?_
  rw [shiftedRight, BitVec.toNat_ushiftRight, Nat.shiftRight_eq_div_pow, BitVec.toNat_ofNat]
  omega

/-- R250: the bit a right shift drops is the byte's parity. -/
theorem byte_bit_zero (v : Byte) : v.getLsbD 0 = (shiftedRight v).2 := by
  rw [BitVec.getLsbD, Nat.testBit_zero, shiftedRight]

/-- R252: a half is below 128. -/
theorem shiftedRight_bit_seven (v : Byte) : (shiftedRight v).1.getLsbD 7 = false := by
  rw [← byte_shiftRight_one, BitVec.getLsbD_ushiftRight, BitVec.getLsbD_of_ge v _ (by decide)]

theorem flagByte_shiftLeft_seven (c : Bool) : (flagByte c <<< 7).toNat = 128 * c.toNat := by
  cases c <;> rfl

/-- R250: a right rotation halves the byte and the old carry adds 128, which the half does not reach. -/
theorem byte_rotateRight (c : Bool) (v : Byte) : (v >>> 1) ||| (flagByte c <<< 7) = (rotatedRight c v).1 := by
  have hhalf : v.toNat / 2 < 2 ^ 7 := by have := v.isLt; omega
  have hor : v.toNat / 2 ||| 128 * c.toNat = v.toNat / 2 + 128 * c.toNat := by
    rw [Nat.or_comm, Nat.add_comm]
    exact (Nat.two_pow_add_eq_or_of_lt hhalf c.toNat).symm
  refine BitVec.eq_of_toNat_eq ?_
  rw [rotatedRight, BitVec.toNat_or, BitVec.toNat_ushiftRight, Nat.shiftRight_eq_div_pow, flagByte_shiftLeft_seven,
    pow_one, hor, BitVec.toNat_ofNat, Nat.mod_eq_of_lt]
  have := c.toNat_le
  omega

/-- LSR's byte and registers in plain arithmetic (R250, R252). -/
theorem Cpu.lsr_eq (v : Byte) (c : Cpu) :
    c.lsr v = ((shiftedRight v).1, Cpu.setZN (shiftedRight v).1 { c with c := (shiftedRight v).2 }) := by
  rw [lsr, byte_shiftRight_one, byte_bit_zero]

/-- R310: the shifted byte goes to A, and N is clear. -/
theorem Cpu.alr_eq (m : Byte) (c : Cpu) :
    let right := shiftedRight (c.a &&& m)
    c.alr m = { c with a := right.1, c := right.2, z := decide (right.1 = 0#8), n := false } := by
  simp only [alr, lsr_eq, setZN, shiftedRight_bit_seven]

/-- R311: A is the rotated byte, and C and V come from it. -/
theorem Cpu.arr_eq (m : Byte) (c : Cpu) :
    let rotated := (rotatedRight c.c (c.a &&& m)).1
    c.arr m = { c.loadA rotated with c := rotated.getLsbD 6, v := rotated.getLsbD 6 ^^ rotated.getLsbD 5 } := by
  rw [arr, byte_rotateRight]

/-- R134: an immediate operand is read at the fetch, so the instruction is `f` on the registers with PC past it, two bytes on,
and nothing outside the CPU changes but the cycles. -/
theorem readOp_imm {f : Byte → Cpu → Cpu} {v : Byte} {s : State} {c : Cpu}
    (hf : f v { s.cpu with pc := s.cpu.pc + 2#16 } = c) :
    readOp (.imm v) 2 false f s = .next { s with cpu := c, cpuReturn := 2 } := by
  rw [← hf]
  exact readOp_eq (m := .imm v) (fun _ => rfl) f s

/-- Settles O30: each is an immediate read; ANC, XAA, LXA and AXS are their rules as written, and ALR and ARR are the shift and
the rotation in plain arithmetic. -/
theorem immediateCombinationResults : Obligations.ImmediateCombinationResults := by
  intro v s t zn masked right rotated xaa lxa both
  refine ⟨?anc, ?alr, ?arr, ?xaa, ?lxa, ?axs⟩
  case anc => exact fun k => (exec_ancImm k v s).trans (readOp_imm rfl)
  case alr => exact (exec_alrImm v s).trans (readOp_imm (Cpu.alr_eq v _))
  case arr => exact (exec_arrImm v s).trans (readOp_imm (Cpu.arr_eq v _))
  case xaa => exact (exec_xaaImm v s).trans (readOp_imm rfl)
  case lxa => exact (exec_lxaImm v s).trans (readOp_imm rfl)
  case axs => exact (exec_axsImm v s).trans (readOp_imm rfl)

end Sys2Proof.Machine
end

section
/-! The PPU family, the dot: what the stages before the flags leave alone, what the flags and the counters do at each dot, and
the counters over a whole frame. -/
namespace Sys2Proof.Machine

open Sys2Proof.Config

/-! ### The stages of a dot: the latches each leaves alone -/

@[simp] theorem pixelStage_v (p : Ppu) : p.pixelStage.v = p.v := by unfold Ppu.pixelStage; split <;> rfl

@[simp] theorem pixelStage_vblank (p : Ppu) : p.pixelStage.vblank = p.vblank := by unfold Ppu.pixelStage; split <;> rfl

/-- R423: a line that is not visible outputs no pixel. -/
theorem pixelStage_of_not_visible {p : Ppu} (h : p.visible = false) : p.pixelStage = p := by
  simp [Ppu.pixelStage, h]

@[simp] theorem fetchStage_vblank (read : BitVec 14 → Byte) (p : Ppu) : (p.fetchStage read).vblank = p.vblank := by
  unfold Ppu.fetchStage Ppu.shiftAndFetch Ppu.fetch
  repeat' split
  all_goals rfl

@[simp] theorem fetchStage_back (read : BitVec 14 → Byte) (p : Ppu) : (p.fetchStage read).back = p.back := by
  unfold Ppu.fetchStage Ppu.shiftAndFetch Ppu.fetch
  repeat' split
  all_goals rfl

/-- R422: off a render line, or between the fetch dots, nothing is fetched. -/
theorem fetchStage_idle (read : BitVec 14 → Byte) {p : Ppu} (h : (p.renderLine && fetchDot p.dot) = false) :
    p.fetchStage read = p :=
  if_neg (ne_true_of_eq_false h)

theorem scrollStage_eq (p : Ppu) : p.scrollStage = { p with v := if p.renderLine then p.scrolledV else p.v } := by
  unfold Ppu.scrollStage
  split <;> rfl

@[simp] theorem spriteStage_v (read : BitVec 14 → Byte) (p : Ppu) : (p.spriteStage read).v = p.v := by
  unfold Ppu.spriteStage
  repeat' split
  all_goals rfl

@[simp] theorem spriteStage_vblank (read : BitVec 14 → Byte) (p : Ppu) : (p.spriteStage read).vblank = p.vblank := by
  unfold Ppu.spriteStage
  repeat' split
  all_goals rfl

@[simp] theorem spriteStage_back (read : BitVec 14 → Byte) (p : Ppu) : (p.spriteStage read).back = p.back := by
  unfold Ppu.spriteStage
  repeat' split
  all_goals rfl

/-! ### The flags -/

/-- R440: the vblank dot. -/
theorem flagStage_vblankDot {p : Ppu} (hline : p.scanline = 241) (hdot : p.dot = 1) :
    p.flagStage = { p with vblank := true } :=
  if_pos ⟨hline, hdot⟩

/-- R442: the dot that clears the three flags. -/
theorem flagStage_clearDot {p : Ppu} (hline : p.scanline = 261) (hdot : p.dot = 1) :
    p.flagStage = { p with vblank := false, sprite0Hit := false, spriteOverflow := false } := by
  rw [Ppu.flagStage, if_neg (by omega), if_pos ⟨hline, hdot⟩]

theorem flagStage_otherDot {p : Ppu} (h : p.dot ≠ 1 ∨ (p.scanline ≠ 241 ∧ p.scanline ≠ 261)) : p.flagStage = p := by
  rw [Ppu.flagStage, if_neg (by omega), if_neg (by omega)]

@[simp] theorem flagStage_v (p : Ppu) : p.flagStage.v = p.v := by
  unfold Ppu.flagStage
  repeat' split
  all_goals rfl

@[simp] theorem flagStage_back (p : Ppu) : p.flagStage.back = p.back := by
  unfold Ppu.flagStage
  repeat' split
  all_goals rfl

/-! ### The counters -/

theorem advance_inLine {p : Ppu} (h : p.dot < 340) : p.advance = { p with dot := p.dot + 1 } := by
  rw [Ppu.advance, dotsPerLine, if_neg (by omega)]

theorem advance_endOfLine {p : Ppu} (hdot : p.dot = 340) (hline : p.scanline < 261) :
    p.advance = { p with dot := 0, scanline := p.scanline + 1 } := by
  rw [Ppu.advance, dotsPerLine, linesPerFrame, if_pos (by omega), if_neg (by omega)]

theorem advance_endOfFrame {p : Ppu} (hdot : p.dot = 340) (hline : p.scanline = 261) :
    p.advance = { p.completeFrame with dot := 0, scanline := 0 } := by
  rw [Ppu.advance, dotsPerLine, linesPerFrame, if_pos (by omega), if_pos (by omega)]

/-- The counters move and the buffers may swap; nothing else of the PPU changes. -/
theorem advance_eq (p : Ppu) : ∃ dot scanline frame back front,
    p.advance = { p with dot := dot, scanline := scanline, frame := frame, back := back, front := front } := by
  unfold Ppu.advance
  repeat' split
  all_goals exact ⟨_, _, _, _, _, rfl⟩

@[simp] theorem advance_v (p : Ppu) : p.advance.v = p.v := by obtain ⟨_, _, _, _, _, h⟩ := advance_eq p; rw [h]
@[simp] theorem advance_t (p : Ppu) : p.advance.t = p.t := by obtain ⟨_, _, _, _, _, h⟩ := advance_eq p; rw [h]
@[simp] theorem advance_vblank (p : Ppu) : p.advance.vblank = p.vblank := by
  obtain ⟨_, _, _, _, _, h⟩ := advance_eq p; rw [h]
@[simp] theorem advance_sprite0Hit (p : Ppu) : p.advance.sprite0Hit = p.sprite0Hit := by
  obtain ⟨_, _, _, _, _, h⟩ := advance_eq p; rw [h]
@[simp] theorem advance_spriteOverflow (p : Ppu) : p.advance.spriteOverflow = p.spriteOverflow := by
  obtain ⟨_, _, _, _, _, h⟩ := advance_eq p; rw [h]

/-- R38: the counters stay in their ranges. -/
theorem advance_counters_le {p : Ppu} (hd : p.dot ≤ 340) (hs : p.scanline ≤ 261) :
    p.advance.dot ≤ 340 ∧ p.advance.scanline ≤ 261 := by
  rcases Nat.lt_or_eq_of_le hd with hd | hd
  · rw [advance_inLine hd]
    exact ⟨hd, hs⟩
  rcases Nat.lt_or_eq_of_le hs with hs | hs
  · rw [advance_endOfLine hd hs]
    exact ⟨Nat.zero_le _, hs⟩
  · rw [advance_endOfFrame hd hs]
    exact ⟨Nat.zero_le _, Nat.zero_le _⟩

/-! ### One dot -/

/-- The PPU at a dot once its pixel, fetch, scroll and sprites are done: what the flags and the counters act on. -/
def Ppu.beforeFlags (u : Byte) (m : Option Mapper) (p : Ppu) : Ppu :=
  let q := p.pixelStage
  let q := q.fetchStage (ppuRead u m q)
  let q := q.scrollStage
  q.spriteStage (ppuRead u m q)

section
variable (u : Byte) (m : Option Mapper) (p : Ppu)

/-- R420: the flags and the counters come last. -/
theorem ppuStep_fst : (ppuStep u m p).1 = (p.beforeFlags u m).flagStage.advance := rfl

theorem ppuStep_snd : (ppuStep u m p).2 = p.nmiDot := rfl

theorem beforeFlags_keeps : StageKeeps p (p.beforeFlags u m) :=
  (((pixelStage_keeps p).trans (fetchStage_keeps _ _)).trans (scrollStage_keeps _)).trans (spriteStage_keeps _ _)

@[simp] theorem beforeFlags_vblank : (p.beforeFlags u m).vblank = p.vblank := by
  simp [Ppu.beforeFlags, scrollStage_eq]

/-- R423: off the visible lines no dot writes the back buffer. -/
theorem beforeFlags_back (h : p.visible = false) : (p.beforeFlags u m).back = p.back := by
  simp [Ppu.beforeFlags, scrollStage_eq, pixelStage_of_not_visible h]

end

/-- Settles O40: the flag stage sees the dot's own counters, no stage before it changes vblank, and the NMI request reads the
counters and PPUCTRL alone. -/
theorem vblankAndNmi : Obligations.VblankAndNmi := by
  intro u m p r
  have hkeeps := beforeFlags_keeps u m p
  have hfst : r.1 = (p.beforeFlags u m).flagStage.advance := ppuStep_fst u m p
  have hsnd : r.2 = p.nmiDot := ppuStep_snd u m p
  refine ⟨?set, ?clear, ?noNmi, ?kept⟩
  case set =>
    intro hline hdot
    rw [hfst, hsnd, flagStage_vblankDot (hkeeps.scanline.trans hline) (hkeeps.dot.trans hdot)]
    simp [Ppu.nmiDot, hline, hdot]
  case clear =>
    intro hline hdot
    rw [hfst, flagStage_clearDot (hkeeps.scanline.trans hline) (hkeeps.dot.trans hdot)]
    simp
  case noNmi =>
    intro hne
    rw [hsnd, Ppu.nmiDot, ← Bool.decide_and, decide_eq_false hne, Bool.false_and]
  case kept =>
    intro hother
    rw [← hkeeps.scanline, ← hkeeps.dot] at hother
    rw [hfst, flagStage_otherDot hother, advance_vblank, beforeFlags_vblank]

/-! ### A whole frame -/

section
variable (u : Byte) (m : Option Mapper)

theorem ppuStep_counters_le {p : Ppu} (hd : p.dot ≤ 340) (hs : p.scanline ≤ 261) :
    (ppuStep u m p).1.dot ≤ 340 ∧ (ppuStep u m p).1.scanline ≤ 261 := by
  obtain ⟨q, hq, hstep⟩ := ppuStep_stages u m p
  rw [hstep]
  exact advance_counters_le (hq.dot ▸ hd) (hq.scanline ▸ hs)

theorem ppuRun_counters_le {p : Ppu} (hd : p.dot ≤ 340) (hs : p.scanline ≤ 261) (n : Nat) :
    (ppuRun u m n p).1.dot ≤ 340 ∧ (ppuRun u m n p).1.scanline ≤ 261 := by
  induction n generalizing p with
  | zero => exact ⟨hd, hs⟩
  | succ n ih =>
    obtain ⟨hd', hs'⟩ := ppuStep_counters_le u m hd hs
    exact ih hd' hs'

/-- R444: a frame's dots later the counters stand where they stood, one frame on: `Ppu.dots` has only one reading in counters
that are in their ranges. -/
theorem ppuRun_frame {p : Ppu} (hd : p.dot ≤ 340) (hs : p.scanline ≤ 261) {n : Nat} (hn : n = dotsPerFrame) :
    (ppuRun u m n p).1.dot = p.dot ∧ (ppuRun u m n p).1.scanline = p.scanline ∧
      (ppuRun u m n p).1.frame = p.frame + 1 := by
  have hdots := ppuRun_dots u m n p
  have ⟨hd', hs'⟩ := ppuRun_counters_le u m hd hs n
  simp only [Ppu.dots, dotsPerFrame, dotsPerLine] at hdots hn
  omega

end

/-- Settles O39: the stages before the last keep the counters and the front buffer, on the pre-render line the back buffer too,
and the last is one of the three cases of R443 and R445. -/
theorem ppuCounters : Obligations.PpuCounters := by
  intro u m p hd hs
  have hkeeps : StageKeeps p (p.beforeFlags u m).flagStage := (beforeFlags_keeps u m p).trans (flagStage_keeps _)
  refine ⟨?inLine, ?endOfLine, ?endOfFrame, ppuRun_frame u m hd hs rfl⟩
  case inLine =>
    intro hdot
    rw [ppuStep_fst, advance_inLine (hkeeps.dot.trans_lt hdot)]
    exact ⟨congrArg (· + 1) hkeeps.dot, hkeeps.scanline, hkeeps.frame, hkeeps.front⟩
  case endOfLine =>
    intro hdot hline
    rw [ppuStep_fst, advance_endOfLine (hkeeps.dot.trans hdot) (hkeeps.scanline.trans_lt hline)]
    exact ⟨rfl, congrArg (· + 1) hkeeps.scanline, hkeeps.frame, hkeeps.front⟩
  case endOfFrame =>
    intro hdot hline
    have hback : (p.beforeFlags u m).flagStage.back = p.back :=
      (flagStage_back _).trans (beforeFlags_back u m p (by simp [Ppu.visible, hline]))
    rw [ppuStep_fst, advance_endOfFrame (hkeeps.dot.trans hdot) (hkeeps.scanline.trans hline)]
    exact ⟨rfl, rfl, congrArg (· + 1) hkeeps.frame, hback, hkeeps.front⟩

end Sys2Proof.Machine
end

section
/-! The PPU family, the scroll: a latch write as a new arrangement of the bit fields of `t` and of the byte, the fields in plain
arithmetic, and the reloads of `v` bit by bit. -/
namespace Sys2Proof.Machine

/-! ### Bit fields in plain arithmetic -/

theorem append_toNat (x : BitVec m) (y : BitVec n) : (x ++ y).toNat = 2 ^ n * x.toNat + y.toNat := by
  rw [BitVec.toNat_append, Nat.shiftLeft_eq, Nat.mul_comm, Nat.two_pow_add_eq_or_of_lt y.isLt]

theorem field_toNat (v : BitVec n) (low w : Nat) : (field v low w).toNat = v.toNat / 2 ^ low % 2 ^ w := by
  rw [field, BitVec.extractLsb'_toNat, Nat.shiftRight_eq_div_pow]

@[simp] theorem field_getLsbD (v : BitVec n) (low w i : Nat) :
    (field v low w).getLsbD i = (decide (i < w) && v.getLsbD (low + i)) :=
  BitVec.getLsbD_extractLsb' low w v i

/-- A mask of `w` ones keeps the `w` lowest bits. -/
theorem lowMask_getLsbD (n w i : Nat) :
    (BitVec.ofNat n (2 ^ w - 1)).getLsbD i = (decide (i < n) && decide (i < w)) := by
  rw [BitVec.getLsbD_ofNat, Nat.testBit_two_pow_sub_one]

/-! ### The latch writes, field by field -/

/-- R402: bits 11 and 10 of `t` become the two low bits of the byte. -/
theorem ctrlScroll_eq (v : Byte) (t : BitVec 15) :
    (t &&& 0x73FF#15) ||| ((v &&& 0x03#8).setWidth 15 <<< 10) = field t 12 3 ++ (field v 0 2 ++ field t 0 10) := by
  have hkeep : ∀ i < 15, (0x73FF#15).getLsbD i = decide (i < 10 ∨ 12 ≤ i) := by decide
  refine BitVec.eq_of_getLsbD_eq fun i hi => ?_
  rw [BitVec.getLsbD_append, BitVec.getLsbD_append]
  grind [lowMask_getLsbD 8 2, field_getLsbD]

/-- R407, first write: the coarse column. -/
theorem columnScroll_eq (v : Byte) (t : BitVec 15) :
    (t &&& 0x7FE0#15) ||| (v >>> 3).setWidth 15 = field t 5 10 ++ field v 3 5 := by
  have hkeep : ∀ i < 15, (0x7FE0#15).getLsbD i = decide (5 ≤ i) := by decide
  refine BitVec.eq_of_getLsbD_eq fun i hi => ?_
  rw [BitVec.getLsbD_append]
  grind [field_getLsbD]

/-- R407, second write: the fine row above the nametable bits, the coarse row above the coarse column. -/
theorem rowScroll_eq (v : Byte) (t : BitVec 15) :
    (t &&& 0x0C1F#15) ||| ((v &&& 0x07#8).setWidth 15 <<< 12) ||| ((v >>> 3).setWidth 15 <<< 5) =
      field v 0 3 ++ (field t 10 2 ++ (field v 3 5 ++ field t 0 5)) := by
  have hkeep : ∀ i < 15, (0x0C1F#15).getLsbD i = decide (i < 5 ∨ 10 ≤ i ∧ i < 12) := by decide
  refine BitVec.eq_of_getLsbD_eq fun i hi => ?_
  rw [BitVec.getLsbD_append, BitVec.getLsbD_append, BitVec.getLsbD_append]
  grind [lowMask_getLsbD 8 3, field_getLsbD]

/-- R408, first write: the high byte, bit 14 cleared. -/
theorem highAddr_eq (v : Byte) (t : BitVec 15) :
    (t &&& 0x00FF#15) ||| ((v &&& 0x3F#8).setWidth 15 <<< 8) = 0#1 ++ (field v 0 6 ++ field t 0 8) := by
  refine BitVec.eq_of_getLsbD_eq fun i hi => ?_
  rw [BitVec.getLsbD_append, BitVec.getLsbD_append]
  grind [lowMask_getLsbD 15 8, lowMask_getLsbD 8 6, field_getLsbD]

/-- R408, second write: the low byte. -/
theorem lowAddr_eq (v : Byte) (t : BitVec 15) : (t &&& 0x7F00#15) ||| v.setWidth 15 = field t 8 7 ++ v := by
  have hkeep : ∀ i < 15, (0x7F00#15).getLsbD i = decide (8 ≤ i) := by decide
  refine BitVec.eq_of_getLsbD_eq fun i hi => ?_
  rw [BitVec.getLsbD_append]
  grind [field_getLsbD]

section
variable (v : Byte) (s : State)

theorem memWrite_ppuCtrl : memWrite 0x2000#16 v s = ppuCtrlWrite v s := memWrite_ppu (by decide) (by decide) v s

theorem memWrite_ppuScroll : memWrite 0x2005#16 v s = { s with ppu := s.ppu.scrollWrite v } :=
  memWrite_ppu (by decide) (by decide) v s

theorem memWrite_ppuAddr : memWrite 0x2006#16 v s = { s with ppu := s.ppu.addrWrite v } :=
  memWrite_ppu (by decide) (by decide) v s

/-- R402: the PPU after a write of PPUCTRL. -/
theorem ppuCtrlWrite_ppu : (ppuCtrlWrite v s).ppu =
    { s.ppu with ctrl := v, t := field s.ppu.t 12 3 ++ (field v 0 2 ++ field s.ppu.t 0 10) } := by
  rw [← ctrlScroll_eq]
  rfl

end

section
variable (v : Byte) {p : Ppu}

/-- R407, first write of a pair. -/
theorem scrollWrite_first (h : p.w = false) :
    p.scrollWrite v = { p with t := field p.t 5 10 ++ field v 3 5, x := v.setWidth 3, w := true } := by
  rw [Ppu.scrollWrite, if_neg (ne_true_of_eq_false h), columnScroll_eq]

/-- R407, second write of a pair. -/
theorem scrollWrite_second (h : p.w = true) :
    p.scrollWrite v =
      { p with t := field v 0 3 ++ (field p.t 10 2 ++ (field v 3 5 ++ field p.t 0 5)), w := false } := by
  rw [Ppu.scrollWrite, if_pos h, rowScroll_eq]

/-- R408, first write of a pair. -/
theorem addrWrite_first (h : p.w = false) :
    p.addrWrite v = { p with t := 0#1 ++ (field v 0 6 ++ field p.t 0 8), w := true } := by
  rw [Ppu.addrWrite, if_neg (ne_true_of_eq_false h), highAddr_eq]

/-- R408, second write of a pair: the whole address reaches `v`. -/
theorem addrWrite_second (h : p.w = true) :
    p.addrWrite v = { p with t := field p.t 8 7 ++ v, v := field p.t 8 7 ++ v, w := false } := by
  rw [Ppu.addrWrite, if_pos h, lowAddr_eq]

end

/-! ### The reloads of `v` -/

/-- The bits of a scroll address that say where along a line it is (R436): the coarse column and the horizontal nametable. -/
def horizontalBit (k : Nat) : Bool := decide (k ≤ 4 ∨ k = 10)

theorem horizontalMask_getLsbD {k : Nat} (h : k < 15) : (0x041F#15).getLsbD k = horizontalBit k := by
  revert k
  decide

theorem verticalMask_getLsbD {k : Nat} (h : k < 15) : (0x7BE0#15).getLsbD k = !horizontalBit k := by
  revert k
  decide

/-- Two addresses merged under the complementary masks of R436 and R437: horizontal bits from `h`, the others from `r`. -/
theorem mergeScroll_getLsbD (h r : BitVec 15) (k : Nat) :
    ((r &&& 0x7BE0#15) ||| (h &&& 0x041F#15)).getLsbD k = if horizontalBit k then h.getLsbD k else r.getLsbD k := by
  rcases Nat.lt_or_ge k 15 with hk | hk
  · rw [BitVec.getLsbD_or, BitVec.getLsbD_and, BitVec.getLsbD_and, horizontalMask_getLsbD hk, verticalMask_getLsbD hk]
    cases horizontalBit k <;> simp
  · simp only [BitVec.getLsbD_of_ge _ _ hk, ite_self]

theorem copyX_getLsbD (v t : BitVec 15) (k : Nat) :
    (copyX v t).getLsbD k = if horizontalBit k then t.getLsbD k else v.getLsbD k :=
  mergeScroll_getLsbD t v k

theorem copyY_getLsbD (v t : BitVec 15) (k : Nat) :
    (copyY v t).getLsbD k = if horizontalBit k then v.getLsbD k else t.getLsbD k := by
  rw [copyY, BitVec.or_comm]
  exact mergeScroll_getLsbD v t k

/-- R437: the dots of the pre-render line that reload the vertical bits. -/
theorem scrolledV_verticalDots {p : Ppu} (hline : p.scanline = 261) (hlow : 280 ≤ p.dot) (hhigh : p.dot ≤ 304) :
    p.scrolledV = copyY p.v p.t := by
  rw [Ppu.scrolledV, if_neg (by omega), if_neg (by omega), if_pos (by simp [Ppu.preRender, hline, hlow, hhigh])]

/-- R436: the dot that reloads the horizontal bits. -/
theorem scrolledV_horizontalDot {p : Ppu} (hdot : p.dot = 257) : p.scrolledV = copyX p.v p.t := by
  rw [Ppu.scrolledV, if_neg (by omega), if_pos hdot]

theorem StageKeeps.renderLine {p q : Ppu} (h : StageKeeps p q) : q.renderLine = p.renderLine := by
  simp only [Ppu.renderLine, Ppu.rendering, Ppu.visible, Ppu.preRender, h.mask, h.scanline]

theorem StageKeeps.scrolledV {p q : Ppu} (h : StageKeeps p q) (hv : q.v = p.v) : q.scrolledV = p.scrolledV := by
  unfold Ppu.scrolledV Ppu.preRender
  rw [h.scanline, h.dot, h.t, hv]

section
variable (u : Byte) (m : Option Mapper)

theorem ppuStep_t (p : Ppu) : (ppuStep u m p).1.t = p.t := by
  obtain ⟨q, hq, hstep⟩ := ppuStep_stages u m p
  rw [hstep, advance_t, hq.t]

/-- R422: at a dot that fetches nothing, the scroll stage alone can change `v`. -/
theorem ppuStep_v {p : Ppu} (hidle : (p.renderLine && fetchDot p.dot) = false) :
    (ppuStep u m p).1.v = if p.renderLine then p.scrolledV else p.v := by
  have hq := pixelStage_keeps p
  have hidle' : (p.pixelStage.renderLine && fetchDot p.pixelStage.dot) = false := by rw [hq.renderLine, hq.dot, hidle]
  rw [ppuStep_fst, advance_v, flagStage_v, Ppu.beforeFlags, fetchStage_idle _ hidle', spriteStage_v, scrollStage_eq]
  simp only [hq.renderLine, hq.scrolledV (pixelStage_v p), pixelStage_v]

end

/-- Settles O36: each latch write is a new arrangement of bit fields, which `append_toNat` and `field_toNat` put in plain
arithmetic; the reloads are at dots that fetch nothing, so `v` is what the scroll stage makes of it. -/
theorem scrollAndAddressWrites : Obligations.ScrollAndAddressWrites := by
  constructor
  · intro v s
    have ht := s.ppu.t.isLt
    have hv := v.isLt
    refine ⟨?ctrl, ?scrollFirst, ?scrollSecond, ?addrFirst, ?addrSecond⟩
    case ctrl =>
      rw [memWrite_ppuCtrl, ppuCtrlWrite_ppu]
      simp only [append_toNat, field_toNat, true_and, and_true]
      omega
    case scrollFirst =>
      intro hw
      rw [memWrite_ppuScroll, scrollWrite_first v hw]
      simp only [append_toNat, field_toNat, BitVec.toNat_setWidth, and_true]
      omega
    case scrollSecond =>
      intro hw
      rw [memWrite_ppuScroll, scrollWrite_second v hw]
      simp only [append_toNat, field_toNat, and_true]
      omega
    case addrFirst =>
      intro hw
      rw [memWrite_ppuAddr, addrWrite_first v hw]
      simp only [append_toNat, field_toNat, BitVec.toNat_ofNat, and_true]
      omega
    case addrSecond =>
      intro hw
      rw [memWrite_ppuAddr, addrWrite_second v hw]
      simp only [append_toNat, field_toNat, and_true]
      omega
  · intro u m p
    refine ⟨ppuStep_t u m p, ?reloadX, ?reloadY, ?noRendering⟩
    case reloadX =>
      intro hrender hdot k
      rw [ppuStep_v u m (by simp [fetchDot, hdot]), if_pos hrender, scrolledV_horizontalDot hdot]
      exact copyX_getLsbD p.v p.t k
    case reloadY =>
      intro hrender hline hlow hhigh k
      have hline' : p.renderLine = true := by simp [Ppu.renderLine, Ppu.preRender, hrender, hline]
      have hdot : fetchDot p.dot = false := by simp [fetchDot]; omega
      rw [ppuStep_v u m (by simp [hdot]), if_pos hline', scrolledV_verticalDots hline hlow hhigh]
      exact copyY_getLsbD p.v p.t k
    case noRendering =>
      intro hrender
      have hline' : p.renderLine = false := by simp [Ppu.renderLine, hrender]
      rw [ppuStep_v u m (by simp [hline']), if_neg (ne_true_of_eq_false hline')]

end Sys2Proof.Machine
end

section
/-! The PPU family, the reads: PPUSTATUS bit by bit, and PPUDATA's delayed byte below the palette and direct one in it. -/
namespace Sys2Proof.Machine

theorem memRead_status (s : State) : memRead 0x2002#16 s = ppuStatusRead s :=
  memRead_ppuStatus (by decide) (by decide) rfl s

theorem memRead_data (s : State) : memRead 0x2007#16 s = ppuDataRead s := memRead_ppuData (by decide) (by decide) rfl s

/-- R404: the three flags stand above five zero bits. -/
theorem statusByte_bits (p : Ppu) :
    p.statusByte.getLsbD 7 = p.vblank ∧ p.statusByte.getLsbD 6 = p.sprite0Hit ∧
      p.statusByte.getLsbD 5 = p.spriteOverflow ∧ p.statusByte.toNat % 32 = 0 := by
  unfold Ppu.statusByte
  cases p.vblank <;> cases p.sprite0Hit <;> cases p.spriteOverflow <;> decide

/-- R410: the address advances by 1 or 32, modulo 0x8000. -/
theorem incrementAddr_v_toNat (p : Ppu) :
    p.incrementAddr.v.toNat = (p.v.toNat + if p.ctrl.getLsbD 2 then 32 else 1) % 0x8000 := by
  rw [Ppu.incrementAddr, BitVec.toNat_add]
  split <;> rfl

theorem incrementAddr_readBuffer (p : Ppu) : p.incrementAddr.readBuffer = p.readBuffer := rfl

/-- The address of a PPUDATA access is `v` modulo 0x4000. -/
theorem dataAddr_eq (p : Ppu) : p.dataAddr = BitVec.ofNat 14 (p.v.toNat % 0x4000) := by
  refine BitVec.eq_of_toNat_eq ?_
  rw [Ppu.dataAddr, BitVec.toNat_setWidth, BitVec.toNat_ofNat, Nat.mod_mod]

/-- The nametable address under a palette address is 0x1000 below it. -/
theorem ofNat_sub_under {a : Nat} (h : 0x3F00 ≤ a) : BitVec.ofNat 14 a - 0x1000#14 = BitVec.ofNat 14 (a - 0x1000) := by
  bv_omega

theorem dataAddr_toNat (p : Ppu) : p.dataAddr.toNat = p.v.toNat % 0x4000 := BitVec.toNat_setWidth _ _

section
variable {s : State}

/-- R411 below the palette: the byte fetched before, and the buffer takes the byte at the address. -/
theorem ppuDataRead_delayed (h : s.ppu.dataAddr.toNat < 0x3F00) :
    ppuDataRead s = (s.ppu.readBuffer, { s with ppu :=
      { s.ppu with readBuffer := ppuRead s.cfg.unmappedRead s.mapper s.ppu s.ppu.dataAddr }.incrementAddr }) := by
  simp only [ppuDataRead, if_pos h]

/-- R411 in the palette: its entry at once, and the buffer takes the nametable byte that lies under it. -/
theorem ppuDataRead_direct (h : 0x3F00 ≤ s.ppu.dataAddr.toNat) :
    ppuDataRead s = (ppuRead s.cfg.unmappedRead s.mapper s.ppu s.ppu.dataAddr, { s with ppu :=
      { s.ppu with
        readBuffer := ppuRead s.cfg.unmappedRead s.mapper s.ppu (s.ppu.dataAddr - 0x1000#14) }.incrementAddr }) := by
  simp only [ppuDataRead, if_neg (Nat.not_lt.mpr h)]

end

/-- Settles O37: both registers are read through their own functions, PPUDATA's in the two cases of R411. -/
theorem statusAndDataReads : Obligations.StatusAndDataReads := by
  intro s
  rw [memRead_status s, memRead_data s]
  refine ⟨statusByte_bits s.ppu, ⟨?again, rfl, rfl, rfl, rfl, rfl⟩, ?delayed, ?direct, incrementAddr_v_toNat _⟩
  case again =>
    rw [memRead_status]
    exact (statusByte_bits _).1
  case delayed =>
    intro ha
    rw [ppuDataRead_delayed ((dataAddr_toNat s.ppu).trans_lt ha), dataAddr_eq]
    simp only [incrementAddr_readBuffer, and_self]
  case direct =>
    intro ha
    rw [ppuDataRead_direct (ha.trans_eq (dataAddr_toNat s.ppu).symm), dataAddr_eq, ofNat_sub_under ha]
    simp only [incrementAddr_readBuffer, and_self]

end Sys2Proof.Machine
end

section
/-! The APU family, the status read: R512's byte bit by bit. -/
namespace Sys2Proof.Machine

theorem flagByte_getLsbD (b : Bool) (i : Nat) : (flagByte b).getLsbD i = (decide (i = 0) && b) := by
  cases b <;> simp [flagByte, BitVec.getLsbD_one]

theorem flagByte_shiftLeft_getLsbD (b : Bool) (k : Nat) {i : Nat} (h : i < 8) :
    (flagByte b <<< k).getLsbD i = (decide (i = k) && b) := by
  rw [BitVec.getLsbD_shiftLeft, flagByte_getLsbD]
  grind

/-- A counter that still runs is one that stands above 0. -/
theorem decide_ne_zero_eq (x : BitVec w) : decide (x ≠ 0#w) = decide (0 < x.toNat) :=
  decide_eq_decide.mpr (by rw [ne_eq, ← BitVec.toNat_inj, BitVec.toNat_zero, Nat.pos_iff_ne_zero])

/-- R512: five running counters, a bit that is always clear, and the two interrupt flags. -/
theorem Apu.statusByte_bits (u : Apu) :
    u.statusByte.getLsbD 0 = decide (0 < u.pulse1.length.toNat) ∧
      u.statusByte.getLsbD 1 = decide (0 < u.pulse2.length.toNat) ∧
      u.statusByte.getLsbD 2 = decide (0 < u.tri.length.toNat) ∧
      u.statusByte.getLsbD 3 = decide (0 < u.noise.length.toNat) ∧
      u.statusByte.getLsbD 4 = decide (0 < u.dmc.bytesRemaining.toNat) ∧
      u.statusByte.getLsbD 5 = false ∧
      u.statusByte.getLsbD 6 = u.frameIrq ∧ u.statusByte.getLsbD 7 = u.dmc.irqFlag := by
  simp only [Apu.statusByte, BitVec.getLsbD_or, flagByte_getLsbD, decide_ne_zero_eq,
    flagByte_shiftLeft_getLsbD, Nat.reduceLT]
  simp

/-- Settles O45: the read is `apuStatusRead`, whose byte is `Apu.statusByte` and whose state has the frame IRQ flag clear. -/
theorem apuStatusRead_spec : Obligations.ApuStatusRead := by
  intro s
  rw [memRead_apuStatus rfl]
  obtain ⟨h0, h1, h2, h3, h4, h5, h6, h7⟩ := s.apu.statusByte_bits
  exact ⟨h0, h1, h2, h3, h4, h5, h6, h7, rfl⟩

end Sys2Proof.Machine
end

section
/-! The APU family, the mixer: R534's two terms as rational functions that saturate, and the range of every channel. -/
namespace Sys2Proof.Machine

/-! ### The range of the channels -/

/-- A pulse or the noise channel is silent, or puts out its fixed volume or its envelope's decay level. -/
theorem gatedVolume_le (silent : Prop) [Decidable silent] (constant : Bool) (vol decay : BitVec 4) :
    (if silent then 0 else if constant then vol.toNat else decay.toNat) ≤ 15 := by
  split
  · omega
  · split <;> omega

theorem Pulse.out_le (first : Bool) (p : Pulse) : p.out first ≤ 15 := gatedVolume_le _ p.constant p.vol p.env.decay

theorem Noise.out_le (n : Noise) : n.out ≤ 15 := gatedVolume_le _ n.constant n.vol n.env.decay

theorem triangleTable_getD_le : ∀ i < 32, triangleTable.getD i 0 ≤ 15 := by decide

theorem Triangle.out_le (t : Triangle) : t.out ≤ 15 := triangleTable_getD_le _ t.seq.isLt

/-! ### One term of the mixer -/

/-- `c / (a / x + 100)` with its fraction cleared, so that silence (`x = 0`) is no special case. -/
def mixTerm (c a x : ℚ) : ℚ := c * x / (a + 100 * x)

section
variable {c a x y : ℚ}

/-- Both of R534's terms, written as the rule writes them. -/
theorem mixTerm_eq_ite (ha : 0 < a) (hx : 0 ≤ x) : mixTerm c a x = if x = 0 then 0 else c / (a / x + 100) := by
  split
  next h => rw [mixTerm, h, mul_zero, zero_div]
  next h =>
    have hden : a + 100 * x ≠ 0 := by positivity
    have hsum : a / x + 100 = (a + 100 * x) / x := by field_simp
    rw [mixTerm, hsum, div_div_eq_mul_div]

theorem mixTerm_nonneg (hc : 0 ≤ c) (ha : 0 < a) (hx : 0 ≤ x) : 0 ≤ mixTerm c a x := by
  unfold mixTerm
  positivity

/-- A term grows with its input: the cross products differ by `c * a * (y - x)`. -/
theorem mixTerm_mono (hc : 0 ≤ c) (ha : 0 < a) (hx : 0 ≤ x) (hxy : x ≤ y) : mixTerm c a x ≤ mixTerm c a y := by
  have hy : 0 ≤ y := hx.trans hxy
  have hgrow : c * a * x ≤ c * a * y := mul_le_mul_of_nonneg_left hxy (by positivity)
  rw [mixTerm, mixTerm, div_le_div_iff₀ (by positivity) (by positivity)]
  linarith

end

/-! ### The ratio -/

/-- The input of R534's second term: the triangle, the noise and the DMC, each with its weight. -/
def tndInput (t n d : Nat) : ℚ := (t : ℚ) / 8227 + (n : ℚ) / 12241 + (d : ℚ) / 22638

theorem tndInput_nonneg (t n d : Nat) : 0 ≤ tndInput t n d := by
  unfold tndInput
  positivity

theorem tndInput_eq_zero_iff (t n d : Nat) : tndInput t n d = 0 ↔ t = 0 ∧ n = 0 ∧ d = 0 := by
  unfold tndInput
  rw [add_eq_zero_iff_of_nonneg (by positivity) (by positivity),
    add_eq_zero_iff_of_nonneg (by positivity) (by positivity)]
  simp [and_assoc]

theorem tndInput_mono {t n d t' n' d' : Nat} (ht : t ≤ t') (hn : n ≤ n') (hd : d ≤ d') :
    tndInput t n d ≤ tndInput t' n' d' := by
  unfold tndInput
  gcongr

/-- R534's `out`, for any outputs of the channels. -/
def mixLevel (p t n d : Nat) : ℚ := mixTerm 95.88 8128 p + mixTerm 159.79 1 (tndInput t n d)

theorem mixLevel_nonneg (p t n d : Nat) : 0 ≤ mixLevel p t n d :=
  add_nonneg (mixTerm_nonneg (by norm_num) (by norm_num) p.cast_nonneg)
    (mixTerm_nonneg (by norm_num) (by norm_num) (tndInput_nonneg t n d))

theorem mixLevel_mono {p t n d p' t' n' d' : Nat} (hp : p ≤ p') (ht : t ≤ t') (hn : n ≤ n') (hd : d ≤ d') :
    mixLevel p t n d ≤ mixLevel p' t' n' d' :=
  add_le_add (mixTerm_mono (by norm_num) (by norm_num) p.cast_nonneg (Nat.cast_le.mpr hp))
    (mixTerm_mono (by norm_num) (by norm_num) (tndInput_nonneg t n d) (tndInput_mono ht hn hd))

/-- R534: even with every channel at its maximum the level is below 1. -/
theorem mixLevel_max : mixLevel 30 15 15 127 < 1 := by
  norm_num [mixLevel, mixTerm, tndInput]

/-- `mixRatio` is the level as one fraction. -/
theorem mixRatio_eq_mixLevel (p t n d : Nat) :
    ((mixRatio p t n d).1 : ℚ) / ((mixRatio p t n d).2 : ℚ) = mixLevel p t n d := by
  unfold mixRatio mixLevel mixTerm tndInput
  push_cast
  field_simp
  ring

/-- The sample is an integer division of the ratio, hence the floor. -/
theorem mixSample_eq_floor (p t n d : Nat) : (mixSample p t n d : ℤ) = ⌊32767 * mixLevel p t n d⌋ := by
  rw [← mixRatio_eq_mixLevel, ← mul_div_assoc]
  exact_mod_cast (Rat.floor_natCast_div_natCast (32767 * (mixRatio p t n d).1) (mixRatio p t n d).2).symm

section
variable {p t n d : Nat}

theorem mixLevel_lt_one (hp : p ≤ 30) (ht : t ≤ 15) (hn : n ≤ 15) (hd : d ≤ 127) : mixLevel p t n d < 1 :=
  (mixLevel_mono hp ht hn hd).trans_lt mixLevel_max

/-- The sample always fits: the level is below 1. -/
theorem mixSample_le (hp : p ≤ 30) (ht : t ≤ 15) (hn : n ≤ 15) (hd : d ≤ 127) : mixSample p t n d ≤ 32766 := by
  have hlevel := mixLevel_lt_one hp ht hn hd
  have hfloor : ⌊32767 * mixLevel p t n d⌋ < 32767 := Int.floor_lt.mpr (by push_cast; linarith)
  have hsample := mixSample_eq_floor p t n d
  omega

end

/-- The level is the sum R534 writes, silence apart. -/
theorem mixLevel_eq_formula (p t n d : Nat) :
    mixLevel p t n d = (if p = 0 then 0 else 95.88 / (8128 / (p : ℚ) + 100)) +
      (if t = 0 ∧ n = 0 ∧ d = 0 then 0 else
        159.79 / (1 / ((t : ℚ) / 8227 + (n : ℚ) / 12241 + (d : ℚ) / 22638) + 100)) := by
  rw [mixLevel, mixTerm_eq_ite (by norm_num) p.cast_nonneg, mixTerm_eq_ite one_pos (tndInput_nonneg t n d)]
  simp only [Nat.cast_eq_zero, tndInput_eq_zero_iff]
  rfl

/-- `mix` loses nothing in its 16 bits. -/
theorem Apu.mix_toNat (u : Apu) (hp : u.pulse1.out true + u.pulse2.out false ≤ 30) : u.mix.toNat =
    mixSample (u.pulse1.out true + u.pulse2.out false) u.tri.out u.noise.out u.dmc.level.toNat := by
  have hfits := mixSample_le hp u.tri.out_le u.noise.out_le (Nat.le_of_lt_succ u.dmc.level.isLt)
  rw [Apu.mix, BitVec.toNat_ofNat, Nat.mod_eq_of_lt (by omega)]

/-- Settles O49: R534's formula is `mixLevel`, which grows with every channel and is below 1 at their maxima; the sample is
its floor, and so fits in the 16 bits of `mix`. -/
theorem mixerFormula : Obligations.MixerFormula := by
  constructor
  · intro u
    have hp : u.pulse1.out true + u.pulse2.out false ≤ 30 := Nat.add_le_add (u.pulse1.out_le true) (u.pulse2.out_le false)
    exact ⟨u.mix_toNat hp, hp, u.tri.out_le, u.noise.out_le, Nat.le_of_lt_succ u.dmc.level.isLt⟩
  · intro p t n d hp ht hn hd r pulse tnd
    have hlevel : mixLevel p t n d = pulse + tnd := mixLevel_eq_formula p t n d
    rw [← hlevel]
    exact ⟨mixRatio_eq_mixLevel p t n d, mixLevel_nonneg p t n d, mixLevel_lt_one hp ht hn hd,
      mixSample_eq_floor p t n d, mixSample_le hp ht hn hd⟩

end Sys2Proof.Machine
end

section
/-! The exception family: the poll at the start of a CPU step case by case, and what taking an exception leaves in memory. -/
namespace Sys2Proof.Machine

open Sys2Proof.Safety

/-! ### The entry as one state -/

/-- R710, R711: an exception is three pushes, I and PC, and reading either of its vectors (R702) changes nothing. -/
theorem takeException_eq (ret : Addr) (b : Bool) {vec : Addr} (hvec : vec = 0xFFFA#16 ∨ vec = 0xFFFE#16) (s : State) :
    takeException ret b vec s = entered ret (s.cpu.packP b) vec s := by
  have hcart : 0x4020 ≤ vec.toNat ∧ vec.toNat < 0xFFFF := by rcases hvec with rfl | rfl <;> decide
  have h2 : s.cpu.s - 1#8 - 1#8 = s.cpu.s - 2#8 := by bv_omega
  have h3 : s.cpu.s - 2#8 - 1#8 = s.cpu.s - 3#8 := by bv_omega
  simp only [takeException, pushWord, readVector_eq hcart.1 hcart.2, push_eq, h2, h3]
  rfl

/-! ### The poll -/

section
variable {s : State}

/-- R703, R321: a jammed CPU idles. -/
theorem cpuStep_jammed (hj : s.cpu.jammed = true) : cpuStep s = finish 2 s := if_pos hj

/-- R704: the NMI latch is cleared and the NMI taken. -/
theorem cpuStep_nmi (hj : s.cpu.jammed = false) (hn : s.cpu.nmiPending = true) :
    cpuStep s = enterInterrupt nmiVector (s.mapCpu fun c => { c with nmiPending := false }) := by
  rw [cpuStep, if_neg (ne_true_of_eq_false hj), if_pos hn]

/-- Neither jammed nor with an NMI pending, the step turns on the IRQ line and I. -/
theorem cpuStep_noNmi (hj : s.cpu.jammed = false) (hn : s.cpu.nmiPending = false) :
    cpuStep s = if irqLine s && !s.cpu.i then enterInterrupt irqVector s else exec (fetchInstr s).1 (fetchInstr s).2 := by
  rw [cpuStep, if_neg (ne_true_of_eq_false hj), if_neg (ne_true_of_eq_false hn)]

/-- R706: the IRQ is taken when I is clear. -/
theorem cpuStep_irq (hj : s.cpu.jammed = false) (hn : s.cpu.nmiPending = false) (hirq : irqLine s = true)
    (hi : s.cpu.i = false) : cpuStep s = enterInterrupt irqVector s := by
  rw [cpuStep_noNmi hj hn, hirq, hi]
  rfl

/-- R707: with no event due, the step is one instruction. -/
theorem cpuStep_instruction (hj : s.cpu.jammed = false) (hn : s.cpu.nmiPending = false)
    (hidle : (irqLine s && !s.cpu.i) = false) : cpuStep s = exec (fetchInstr s).1 (fetchInstr s).2 := by
  rw [cpuStep_noNmi hj hn, if_neg (ne_true_of_eq_false hidle)]

end

/-- Settles O5: each clause is one branch of the poll, an entry's next state that of `takeException_eq`. -/
theorem interruptPoll : Obligations.InterruptPoll := by
  intro s
  refine ⟨cpuStep_jammed, ?nmi, ?irq, ?instruction⟩
  case nmi =>
    intro hj hn
    rw [cpuStep_nmi hj hn, enterInterrupt, nmiVector, takeException_eq _ _ (.inl rfl)]
    rfl
  case irq =>
    intro hj hn hirq hi
    rw [cpuStep_irq hj hn hirq hi, enterInterrupt, irqVector, takeException_eq _ _ (.inr rfl)]
    rfl
  case instruction =>
    intro hj hn hidle
    refine cpuStep_instruction hj hn ?_
    rcases hidle with hi | hirq
    · rw [hi, Bool.not_true, Bool.and_false]
    · rw [irqLine, hirq, Bool.false_and]

/-! ### What pushes leave in memory -/

theorem stackAddr_plain (sp : Byte) : PlainAddr (stackAddr sp) := .inl (Nat.lt_succ_of_le (stackAddr_le sp))

/-- Two stack pointers reach the same byte only when they are equal: the stack page holds no mirrors. -/
theorem sameCell_stackAddr_iff (p q : Byte) : SameCell (stackAddr p) (stackAddr q) ↔ p = q := by
  constructor
  · intro h
    have hcell : ramIndex (stackAddr p) = ramIndex (stackAddr q) := by
      rcases h with heq | ⟨-, -, hmod⟩
      · rw [heq]
      · exact hmod
    rw [ramIndex_stackAddr, ramIndex_stackAddr] at hcell
    exact BitVec.eq_of_toNat_eq (Nat.add_left_cancel hcell)
  · rintro rfl
    exact .inl rfl

/-- Two runs one after the other keep what neither stores to. -/
theorem MemoryKept.trans {p q : Addr → Prop} {s t u : State} (h : MemoryKept p s t) (h' : MemoryKept q t u) :
    MemoryKept (fun a => p a ∨ q a) s u := by
  intro a ha hn
  rw [not_or] at hn
  exact (h' a ha hn.2).trans (h a ha hn.1)

/-- A later push keeps the byte under another stack pointer. -/
theorem memRead_push_other {s : State} (hwf : s.ram.wf 0x800 = true) (v : Byte) {sp : Byte} (hsp : s.cpu.s ≠ sp) :
    (memRead (stackAddr sp) (push v s)).1 = (memRead (stackAddr sp) s).1 :=
  push_memoryKept hwf v _ (stackAddr_plain sp) (mt (sameCell_stackAddr_iff _ _).mp hsp)

theorem push_s (v : Byte) (s : State) : (push v s).cpu.s = s.cpu.s - 1#8 := by rw [push_eq]

theorem pushWord_s (w : Addr) (s : State) : (pushWord w s).cpu.s = s.cpu.s - 2#8 := by
  rw [pushWord, push_s, push_s]
  bv_omega

section
variable {s : State} (hwf : s.ram.wf 0x800 = true)
include hwf

theorem push_ram_wf (v : Byte) : (push v s).ram.wf 0x800 = true := by
  rw [push_eq]
  exact Memory.wf_write hwf (by have := s.cpu.s.isLt; omega) v

theorem pushWord_ram_wf (w : Addr) : (pushWord w s).ram.wf 0x800 = true := push_ram_wf (push_ram_wf hwf _) _

/-- A pushed word changes the two bytes at S and below it. -/
theorem pushWord_memoryKept (w : Addr) :
    MemoryKept (fun a => SameCell (stackAddr s.cpu.s) a ∨ SameCell (stackAddr (s.cpu.s - 1#8)) a) s (pushWord w s) := by
  have hlo := push_memoryKept (push_ram_wf hwf (hi w)) (lo w)
  rw [push_s] at hlo
  exact MemoryKept.trans (push_memoryKept hwf (hi w)) hlo

/-- R24: the high byte of a pushed word is the upper one. -/
theorem memRead_pushWord_hi (w : Addr) : (memRead (stackAddr s.cpu.s) (pushWord w s)).1 = hi w := by
  have hne : (push (hi w) s).cpu.s ≠ s.cpu.s := by
    rw [push_s]
    bv_omega
  rw [pushWord, memRead_push_other (push_ram_wf hwf _) _ hne, memRead_push_same hwf]

/-- R24: the low byte of a pushed word lies below its high byte. -/
theorem memRead_pushWord_lo (w : Addr) : (memRead (stackAddr (s.cpu.s - 1#8)) (pushWord w s)).1 = lo w := by
  rw [← push_s (hi w)]
  exact memRead_push_same (push_ram_wf hwf _) _

end

/-! ### What an entry leaves in memory -/

/-- The part of an entry that writes memory: the return address and the status byte, pushed. -/
def pushEntry (ret : Addr) (b : Bool) (s : State) : State := push (s.cpu.packP b) (pushWord ret s)

/-- After its pushes an entry only reads, so memory is what the pushes made it. -/
theorem memRead_takeException {a : Addr} (ha : PlainAddr a) (ret : Addr) (b : Bool) (vec : Addr) (s : State) :
    (memRead a (takeException ret b vec s)).1 = (memRead a (pushEntry ret b s)).1 := by
  have hstatus : (pushWord ret s).cpu.packP b = s.cpu.packP b := by
    rw [pushWord, push_eq, push_eq]
    rfl
  have hread := readVector_readStep vec ((pushEntry ret b s).mapCpu fun c => { c with i := true })
  rw [takeException, hstatus]
  exact memRead_plain_congr ha hread.ram_eq hread.mapper_eq hread.cfg_eq

section
variable {s : State} (hwf : s.ram.wf 0x800 = true) (ret : Addr) (b : Bool) (vec : Addr)
include hwf

/-- R711: three bytes of the stack page change. -/
theorem takeException_memoryKept :
    MemoryKept (fun a => SameCell (stackAddr s.cpu.s) a ∨ SameCell (stackAddr (s.cpu.s - 1#8)) a ∨
      SameCell (stackAddr (s.cpu.s - 2#8)) a) s (takeException ret b vec s) := by
  intro a ha hn
  have hstatus := push_memoryKept (pushWord_ram_wf hwf ret) (s.cpu.packP b)
  rw [pushWord_s] at hstatus
  rw [memRead_takeException ha]
  exact MemoryKept.trans (pushWord_memoryKept hwf ret) hstatus a ha (mt or_assoc.mp hn)

/-- The status byte stands below both bytes of the return address, which its push keeps. -/
theorem memRead_takeException_other {sp : Byte} (hsp : s.cpu.s - 2#8 ≠ sp) :
    (memRead (stackAddr sp) (takeException ret b vec s)).1 = (memRead (stackAddr sp) (pushWord ret s)).1 := by
  rw [memRead_takeException (stackAddr_plain sp), pushEntry,
    memRead_push_other (pushWord_ram_wf hwf ret) _ (by rwa [pushWord_s])]

theorem memRead_takeException_hi :
    (memRead (stackAddr s.cpu.s) (takeException ret b vec s)).1 = hi ret := by
  rw [memRead_takeException_other hwf _ _ _ (by bv_omega), memRead_pushWord_hi hwf]

theorem memRead_takeException_lo :
    (memRead (stackAddr (s.cpu.s - 1#8)) (takeException ret b vec s)).1 = lo ret := by
  rw [memRead_takeException_other hwf _ _ _ (by bv_omega), memRead_pushWord_lo hwf]

theorem memRead_takeException_status :
    (memRead (stackAddr (s.cpu.s - 2#8)) (takeException ret b vec s)).1 = s.cpu.packP b := by
  rw [memRead_takeException (stackAddr_plain _), ← pushWord_s ret]
  exact memRead_push_same (pushWord_ram_wf hwf ret) _

end

/-- Settles O6: the entry is `takeException_eq` at either vector; in memory it is three pushes, each to a cell of its own. -/
theorem exceptionEntryFrame : Obligations.ExceptionEntryFrame := by
  intro ret b vec s hvec
  exact ⟨takeException_eq ret b hvec s, fun hwf => ⟨takeException_memoryKept hwf ret b vec,
    memRead_takeException_hi hwf ret b vec, memRead_takeException_lo hwf ret b vec,
    memRead_takeException_status hwf ret b vec⟩⟩

end Sys2Proof.Machine
end

section
/-! The encoding family: the operand bytes of a mode, the mode an opcode byte selects, and the decoder as the inverse of the
encoder. -/
namespace Sys2Proof

open Sys2Proof.Machine

/-! ### The operand bytes of a mode -/

/-- The mode with `b1` and `b2` for its operand bytes, low byte first; a mode ignores the bytes it does not have (R130). -/
def Mode.withBytes (b1 b2 : Byte) : Mode → Mode
  | .imp => .imp
  | .acc => .acc
  | .imm _ => .imm b1
  | .zp _ => .zp b1
  | .zpx _ => .zpx b1
  | .zpy _ => .zpy b1
  | .abs _ => .abs (word b2 b1)
  | .abx _ => .abx (word b2 b1)
  | .aby _ => .aby (word b2 b1)
  | .ind _ => .ind (word b2 b1)
  | .izx _ => .izx b1
  | .izy _ => .izy b1
  | .rel _ => .rel b1

/-- The operand byte `k` of a mode, 0 where it has none. -/
def Mode.byte (m : Mode) (k : Nat) : Byte := m.bytes.getD k 0#8

theorem lo_word (h l : Byte) : lo (word h l) = l := by
  rw [lo, word, BitVec.setWidth_append_eq_right]

theorem hi_word (h l : Byte) : hi (word h l) = h := by
  refine BitVec.eq_of_toNat_eq ?_
  rw [hi_toNat, word, append_toNat]
  omega

theorem Mode.withBytes_length (b1 b2 : Byte) (m : Mode) : (m.withBytes b1 b2).length = m.length := by
  cases m <;> rfl

/-- The operand bytes put into a mode are the ones it encodes to. -/
theorem Mode.withBytes_bytes (b1 b2 : Byte) (m : Mode) :
    (m.withBytes b1 b2).bytes = [b1, b2].take (m.length - 1) := by
  cases m with
  | abs | abx | aby | ind => simp [withBytes, bytes, length, lo_word, hi_word]
  | _ => rfl

theorem Mode.withBytes_withBytes (b1 b2 c1 c2 : Byte) (m : Mode) :
    (m.withBytes c1 c2).withBytes b1 b2 = m.withBytes b1 b2 := by
  cases m <;> rfl

theorem Mode.withBytes_congr {b1 b2 c1 c2 : Byte} {m : Mode}
    (h : [b1, b2].take (m.length - 1) = [c1, c2].take (m.length - 1)) : m.withBytes b1 b2 = m.withBytes c1 c2 := by
  cases m <;> simp_all [withBytes, length]

/-- A mode's own bytes put into it give it back. -/
theorem Mode.withBytes_self (m : Mode) : m.withBytes (m.byte 0) (m.byte 1) = m := by
  cases m with
  | abs a | abx a | aby a | ind a => exact congrArg _ (Laws.EncodeShape.word_hi_lo a)
  | _ => rfl

theorem Mode.bytes_length (m : Mode) : m.bytes.length + 1 = m.length := by
  cases m <;> rfl

/-- A mode's bytes are its first and its second, as many as it has. -/
theorem Mode.bytes_eq_take (m : Mode) : m.bytes = [m.byte 0, m.byte 1].take (m.length - 1) := by
  rw [← withBytes_bytes, withBytes_self]

/-! ### The decoder -/

/-- The opcode byte read back from the instruction it decodes to (R146). -/
theorem decodeOp_opcode_zero : ∀ op : Byte, (decodeOp op 0#8 0#8).opcode = op := by decide

/-- The operand bytes reach the mode's operand and nothing else. -/
theorem decodeOp_bytes (op b1 b2 : Byte) :
    (decodeOp op b1 b2).opcode = (decodeOp op 0#8 0#8).opcode ∧
      (decodeOp op b1 b2).mode = (decodeOp op 0#8 0#8).mode.withBytes b1 b2 := by
  unfold decodeOp
  generalize op.toNat % 16 = low
  split <;> simp only [decodeRow0, decodeRow1, decodeRow2, decodeRow3, decodeRow4, decodeRow5, decodeRow6, decodeRow7,
    decodeRow8, decodeRow9, decodeRowA, decodeRowB, decodeRowC, decodeRowD, decodeRowE, decodeRowF] <;>
    split <;> exact ⟨rfl, rfl⟩

theorem decodeOp_opcode (op b1 b2 : Byte) : (decodeOp op b1 b2).opcode = op :=
  (decodeOp_bytes op b1 b2).1.trans (decodeOp_opcode_zero op)

/-- R130: the length is a function of the opcode byte alone. -/
theorem decodeOp_length (op b1 b2 : Byte) : (decodeOp op b1 b2).length = opLength op := by
  rw [Instr.length, (decodeOp_bytes op b1 b2).2, Mode.withBytes_length]
  rfl

/-- An instruction decodes from its own opcode and operand bytes. -/
theorem decodeOp_self {i : Instr} {b1 b2 : Byte} (h : i.mode.withBytes b1 b2 = i.mode) : decodeOp i.opcode b1 b2 = i := by
  cases i with
  | jam k | nopZp k _ | ancImm k _ | nopZpx k _ | nopImp k | nopAbx k _ | nopImm k _ =>
    cases h
    cases k <;> dsimp only [Instr.opcode] <;> rfl
  | _ =>
    cases h
    dsimp only [Instr.opcode]
    rfl

theorem opLength_opcode (i : Instr) : opLength i.opcode = i.length := by
  rw [← decodeOp_length i.opcode (i.mode.byte 0) (i.mode.byte 1), decodeOp_self i.mode.withBytes_self]

/-- The bytes the decoder takes are the encoding of what it answers. -/
theorem encode_decodeOp (op b1 b2 : Byte) : encode (decodeOp op b1 b2) = op :: [b1, b2].take (opLength op - 1) := by
  rw [encode, decodeOp_opcode, (decodeOp_bytes op b1 b2).2, Mode.withBytes_bytes]
  rfl

theorem opLength_cases (op : Byte) : opLength op = 1 ∨ opLength op = 2 ∨ opLength op = 3 := by
  rw [opLength, Instr.length]
  cases (decodeOp op 0#8 0#8).mode <;> simp [Mode.length]

/-- Bytes that the mode does not have play no part. -/
theorem decodeOp_congr {op b1 b2 c1 c2 : Byte} (h : [b1, b2].take (opLength op - 1) = [c1, c2].take (opLength op - 1)) :
    decodeOp op b1 b2 = decodeOp op c1 c2 := by
  have hmode := (decodeOp_bytes op c1 c2).2
  have hself : (decodeOp op c1 c2).mode.withBytes b1 b2 = (decodeOp op c1 c2).mode := by
    rw [hmode, Mode.withBytes_withBytes]
    exact Mode.withBytes_congr h
  rw [← decodeOp_self hself, decodeOp_opcode]

/-- R131: the decoder takes the opcode byte and as many operand bytes as it announces, and leaves the rest. -/
theorem decode_take (op b1 b2 : Byte) (rest : List Byte) :
    decode (op :: ([b1, b2].take (opLength op - 1) ++ rest)) = .ok (decodeOp op b1 b2, rest) := by
  rcases opLength_cases op with h | h | h
  · have hnone : decodeOp op b1 b2 = decodeOp op 0#8 0#8 := decodeOp_congr (by rw [h]; rfl)
    simp [decode, h, hnone]
  · have hone : decodeOp op b1 b2 = decodeOp op b1 0#8 := decodeOp_congr (by rw [h]; rfl)
    simp [decode, h, hone]
  · simp [decode, h]

/-- Settles O1: an instruction's bytes are its opcode and as many operand bytes as its mode has, and the decoder puts those
bytes back into the mode the opcode selects. -/
theorem decodeOfEncode : Obligations.DecodeOfEncode := by
  intro i rest
  have hlen : i.mode.length = opLength i.opcode := (opLength_opcode i).symm
  rw [encode, List.cons_append, i.mode.bytes_eq_take, hlen, decode_take, decodeOp_self i.mode.withBytes_self]

/-- What the decoder answers encodes back to the bytes it took: it answers only in the three cases of R130. -/
theorem encode_of_decode {bytes rest : List Byte} {i : Instr} (h : decode bytes = .ok (i, rest)) :
    encode i ++ rest = bytes := by
  unfold decode at h
  split at h
  · cases h
  · split at h <;> cases h <;> rename_i hlen <;> rw [encode_decodeOp, hlen] <;> rfl

/-- Settles O2: `decode_take` on the three bytes, and what it leaves of them stays before the rest. -/
theorem decoderTakesEveryOpcode : Obligations.DecoderTakesEveryOpcode := by
  refine ⟨fun op b1 b2 rest => ?_, fun _ _ _ => encode_of_decode⟩
  have hsplit : b1 :: b2 :: rest = [b1, b2].take (opLength op - 1) ++ ([b1, b2].drop (opLength op - 1) ++ rest) := by
    rw [← List.append_assoc, List.take_append_drop]
    rfl
  refine ⟨decodeOp op b1 b2, [b1, b2].drop (opLength op - 1) ++ rest, ?_, decodeOp_opcode op b1 b2, fun c1 c2 => ?_, ?_⟩
  · rw [hsplit, decode_take]
  · rw [decodeOp_length, decodeOp_length]
  · rw [decodeOp_length]
    rcases opLength_cases op with h | h | h <;> simp [h] <;> omega

/-- Settles O3: each row is read by evaluation. -/
theorem decodedWords : Obligations.DecodedWords := ⟨rfl, rfl, rfl, rfl, rfl, rfl, rfl, rfl, rfl, rfl⟩

end Sys2Proof
end

section
/-! The instruction family: the shape of every instruction as a function of its mnemonic and its mode, said once for `exec`;
what all instructions leave alone, and which registers and flags each may write. -/
namespace Sys2Proof.Machine

open Sys2Proof.Safety Sys2Proof.Config

/-! ### The shapes -/

/-- What is run for an instruction besides its addressing mode: one of the shapes of Machine/Operands.lean with its functions
on the registers, or one of the instructions with a meaning of its own. -/
inductive Shape
  | read (f : Params → Byte → Cpu → Cpu)
  | store (v : Cpu → Byte)
  | unstable (pre : Cpu → Cpu) (v : Cpu → Byte)
  | rmw (f : Byte → Cpu → Byte × Cpu) (g : Byte → Cpu → Cpu)
  | implied (f : Cpu → Cpu)
  | acc (f : Byte → Cpu → Byte × Cpu)
  | branch (taken : Cpu → Bool)
  | jump | jam | pha | php | pla | plp | jsr | rts | rti | brk

/-- The modes whose read costs one cycle more when the index crosses a page (R831). -/
def Mode.penalty : Mode → Bool
  | .abx _ | .aby _ | .izy _ => true
  | _ => false

/-- The cycles of JMP (R271). -/
def jumpCycles : Mode → Nat
  | .ind _ => 5
  | _ => 3

/-- JSR in mode `m`, which is ABS (R272). -/
def jsrOp (m : Mode) (s : State) : Host.Outcome State Fault Refusal :=
  finish 6 ((pushWord (s.cpu.pc + 2#16) (operand m s).2).setPc (operand m s).1.ea)

/-- The meaning a shape has in a mode, with the cycles R831 gives its class there. -/
def Shape.run (m : Mode) (s : State) : Shape → Host.Outcome State Fault Refusal
  | read f => readOp m (readCycles m false) (Mode.penalty m) (f s.cfg) s
  | store v => storeOp m (writeCycles m) v s
  | unstable pre v => unstableStoreOp m (writeCycles m) pre v s
  | rmw f g => rmwOp m (rmwCycles m) f g s
  | implied f => impliedOp 2 f s
  | acc f => accOp 2 f s
  | branch taken => branchOp (m.byte 0) taken s
  | jump => jumpOp m (jumpCycles m) s
  | jam => jamOp s
  | pha => execPha s
  | php => execPhp s
  | pla => execPla s
  | plp => execPlp s
  | jsr => jsrOp m s
  | rts => execRts s
  | rti => execRti s
  | brk => execBrk s

/-- A shift or rotation: of A in mode ACC, else of memory. -/
def shiftShape (f : Byte → Cpu → Byte × Cpu) : Mode → Shape
  | .acc => .acc f
  | _ => .rmw f Cpu.keep

/-- A NOP: nothing in mode IMP, else the one read of its operand (R322). -/
def nopShape : Mode → Shape
  | .imp => .implied fun c => c
  | _ => .read fun _ => Cpu.nopRead

/-- The shape of an instruction, by its mnemonic and its mode. -/
def opShape (m : Mode) : Mnemonic → Shape
  | .adc => .read fun _ => Cpu.adc
  | .alr => .read fun _ => Cpu.alr
  | .anc => .read fun _ => Cpu.anc
  | .and => .read fun _ => Cpu.and
  | .arr => .read fun _ => Cpu.arr
  | .asl => shiftShape Cpu.asl m
  | .axs => .read fun _ => Cpu.axs
  | .bcc => .branch fun c => !c.c
  | .bcs => .branch fun c => c.c
  | .beq => .branch fun c => c.z
  | .bit => .read fun _ => Cpu.bit
  | .bmi => .branch fun c => c.n
  | .bne => .branch fun c => !c.z
  | .bpl => .branch fun c => !c.n
  | .brk => .brk
  | .bvc => .branch fun c => !c.v
  | .bvs => .branch fun c => c.v
  | .clc => .implied fun c => { c with c := false }
  | .cld => .implied fun c => { c with d := false }
  | .cli => .implied fun c => { c with i := false }
  | .clv => .implied fun c => { c with v := false }
  | .cmp => .read fun _ => Cpu.cmp
  | .cpx => .read fun _ => Cpu.cpx
  | .cpy => .read fun _ => Cpu.cpy
  | .dcp => .rmw Cpu.decByte Cpu.cmp
  | .dec => .rmw Cpu.decByte Cpu.setZN
  | .dex => .implied fun c => c.loadX (c.x - 1#8)
  | .dey => .implied fun c => c.loadY (c.y - 1#8)
  | .eor => .read fun _ => Cpu.eor
  | .inc => .rmw Cpu.incByte Cpu.setZN
  | .inx => .implied fun c => c.loadX (c.x + 1#8)
  | .iny => .implied fun c => c.loadY (c.y + 1#8)
  | .isc => .rmw Cpu.incByte Cpu.sbc
  | .jam => .jam
  | .jmp => .jump
  | .jsr => .jsr
  | .las => .read fun _ => Cpu.las
  | .lax => .read fun _ => Cpu.lax
  | .lda => .read fun _ => Cpu.loadA
  | .ldx => .read fun _ => Cpu.loadX
  | .ldy => .read fun _ => Cpu.loadY
  | .lsr => shiftShape Cpu.lsr m
  | .lxa => .read fun cfg => Cpu.lxa cfg.lxaMagic
  | .nop => nopShape m
  | .ora => .read fun _ => Cpu.ora
  | .pha => .pha
  | .php => .php
  | .pla => .pla
  | .plp => .plp
  | .rla => .rmw Cpu.rol Cpu.and
  | .rol => shiftShape Cpu.rol m
  | .ror => shiftShape Cpu.ror m
  | .rra => .rmw Cpu.ror Cpu.adc
  | .rti => .rti
  | .rts => .rts
  | .sax => .store fun c => c.a &&& c.x
  | .sbc => .read fun _ => Cpu.sbc
  | .sec => .implied fun c => { c with c := true }
  | .sed => .implied fun c => { c with d := true }
  | .sei => .implied fun c => { c with i := true }
  | .sha => .unstable id fun c => c.a &&& c.x
  | .shx => .unstable id fun c => c.x
  | .shy => .unstable id fun c => c.y
  | .slo => .rmw Cpu.asl Cpu.ora
  | .sre => .rmw Cpu.lsr Cpu.eor
  | .sta => .store fun c => c.a
  | .stx => .store fun c => c.x
  | .sty => .store fun c => c.y
  | .tas => .unstable Cpu.tasS fun c => c.s
  | .tax => .implied fun c => c.loadX c.a
  | .tay => .implied fun c => c.loadY c.a
  | .tsx => .implied fun c => c.loadX c.s
  | .txa => .implied fun c => c.loadA c.x
  | .txs => .implied fun c => { c with s := c.x }
  | .tya => .implied fun c => c.loadA c.y
  | .usbc => .read fun _ => Cpu.sbc
  | .xaa => .read fun cfg => Cpu.xaa cfg.xaaMagic

/-- Every arm of `exec` is the shape of the instruction's mnemonic, run in its mode: the table above loses nothing. -/
theorem exec_eq_run (i : Instr) (s : State) : exec i s = (opShape i.mode i.op).run i.mode s := by
  cases i <;> rfl

/-! ### Every instruction completes -/

theorem readCycles_bounds (m : Mode) : 2 ≤ readCycles m false ∧ readCycles m false ≤ 7 := by
  cases m <;> simp [readCycles]

theorem writeCycles_bounds (m : Mode) : 2 ≤ writeCycles m ∧ writeCycles m ≤ 8 := by
  cases m <;> simp [writeCycles]

theorem rmwCycles_bounds (m : Mode) : 2 ≤ rmwCycles m ∧ rmwCycles m ≤ 8 := by
  cases m <;> simp [rmwCycles]

theorem jumpCycles_bounds (m : Mode) : 2 ≤ jumpCycles m ∧ jumpCycles m ≤ 8 := by
  cases m <;> simp [jumpCycles]

theorem jamOp_completes (s : State) : Completes s (jamOp s) := by
  unfold jamOp
  split <;> exact impliedOp_completes 2 _ s (by decide) (by decide)

/-- R131 step 5: moving PC past a one-byte instruction is a change of the CPU alone. -/
theorem pastOpcode_cpuStep (s : State) : CpuStep s (pastOpcode s) := operand_cpuStep .imp s

theorem Shape.run_completes (m : Mode) (s : State) (k : Shape) : Completes s (k.run m s) := by
  have hpast := pastOpcode_cpuStep s
  cases k with
  | read f => exact readOp_completes m _ _ _ s (readCycles_bounds m).1 (readCycles_bounds m).2
  | store v => exact storeOp_completes m _ v s (writeCycles_bounds m).1 (writeCycles_bounds m).2
  | unstable pre v => exact unstableStoreOp_completes m _ pre v s (writeCycles_bounds m).1 (writeCycles_bounds m).2
  | rmw f g => exact rmwOp_completes m _ f g s (rmwCycles_bounds m).1 (rmwCycles_bounds m).2
  | implied f => exact impliedOp_completes 2 f s (by decide) (by decide)
  | acc f => exact accOp_completes 2 f s (by decide) (by decide)
  | branch taken => exact branchOp_completes _ taken s
  | jump => exact jumpOp_completes m _ s (jumpCycles_bounds m).1 (jumpCycles_bounds m).2
  | jam => exact jamOp_completes s
  | pha => exact (hpast.push _).completes (by decide) (by decide)
  | php => exact (hpast.push _).completes (by decide) (by decide)
  | pla => exact (hpast.pull.mapCpu _).completes (by decide) (by decide)
  | plp => exact (hpast.pull.mapCpu _).completes (by decide) (by decide)
  | jsr => exact (((operand_cpuStep m s).pushWord _).setPc _).completes (by decide) (by decide)
  | rts => exact (hpast.pullWord.setPc _).completes (by decide) (by decide)
  | rti => exact hpast.returnFromException.completes (by decide) (by decide)
  | brk => exact (hpast.takeException _ _ _).completes (by decide) (by decide)

theorem exec_completes (i : Instr) (s : State) : Completes s (exec i s) := by
  rw [exec_eq_run]
  exact Shape.run_completes _ s _

/-- Settles O33: each shape completes by its own lemma, and what `CpuStep` leaves alone is what the statement lists; of the
Mapper it leaves all but CHR RAM. -/
theorem everyInstructionCompletes : Obligations.EveryInstructionCompletes := by
  intro i s
  obtain ⟨t, hexec, h, hlow, hhigh⟩ := exec_completes i s
  obtain ⟨hnone, hsome⟩ := mapperFixed_cases h.mapper
  exact ⟨t, hexec, hlow, hhigh, h.cfg, hnone, hsome, h.dot, h.scanline, h.frame, h.back, h.front, h.cycles, h.frameTarget3,
    h.pendingStall, h.loaded, h.pad⟩

/-! ### What a shape keeps of the registers -/

/-- A part of the registers that PC, the NMI latch and the jam latch are not in. -/
def RegisterPart (p : Cpu → α) : Prop :=
  ∀ (c : Cpu) (pc : Addr) (nmi jammed : Bool), p { c with pc := pc, nmiPending := nmi, jammed := jammed } = p c

/-- The shape's functions on the registers keep the part `p`; between the two functions of a read-modify-write stands the
write, which may set the NMI latch (R402). -/
def Shape.Keeps (p : Cpu → α) : Shape → Prop
  | read f => ∀ cfg b c, p (f cfg b c) = p c
  | unstable pre _ => ∀ c, p (pre c) = p c
  | rmw f g => ∀ b nmi c, p (g (f b c).1 { (f b c).2 with nmiPending := nmi }) = p c
  | implied f => ∀ c, p (f c) = p c
  | acc f => ∀ c, p { (f c.a c).2 with a := (f c.a c).1 } = p c
  | store _ | branch _ | jump | jam => ∀ c : Cpu, p c = p c
  | pha | php | jsr | rts => ∀ c sp, p { c with s := sp } = p c
  | pla => ∀ c sp b, p (Cpu.loadA b { c with s := sp }) = p c
  | plp => ∀ c sp b, p (Cpu.unpackP b { c with s := sp }) = p c
  | rti => ∀ c sp sp' b, p { Cpu.unpackP b { c with s := sp } with s := sp' } = p c
  | brk => ∀ c sp, p { c with s := sp, i := true } = p c

/-- A meaning that answers a next state answers one with the part `p` of the registers as it was. -/
def KeepsPart (p : Cpu → α) (s : State) (o : Host.Outcome State Fault Refusal) : Prop :=
  ∀ t, o = .next t → p t.cpu = p s.cpu

theorem keepsPart_finish {p : Cpu → α} {s u : State} (h : p u.cpu = p s.cpu) (n : Nat) : KeepsPart p s (finish n u) := by
  rintro _ ⟨⟩
  exact h

theorem pastOpcode_cpu (s : State) : (pastOpcode s).cpu = { s.cpu with pc := s.cpu.pc + 1#16 } := operand_cpu .imp s

theorem push_cpu_s (v : Byte) (s : State) : (push v s).cpu = { s.cpu with s := s.cpu.s - 1#8 } := by rw [push_eq]

theorem pull_cpu_s (s : State) : (pull s).2.cpu = { s.cpu with s := s.cpu.s + 1#8 } := by rw [pull_eq]

theorem pushWord_cpu (w : Addr) (s : State) : (pushWord w s).cpu = { s.cpu with s := s.cpu.s - 1#8 - 1#8 } := by
  rw [pushWord, push_cpu_s, push_cpu_s]

theorem pullWord_cpu (s : State) : (pullWord s).2.cpu = { s.cpu with s := s.cpu.s + 1#8 + 1#8 } := by
  rw [pullWord, pull_cpu_s, pull_cpu_s]

theorem readVector_cpu (vec : Addr) (s : State) : (readVector vec s).2.cpu = s.cpu := (readVector_readStep vec s).cpu_eq

section
variable {p : Cpu → α} (hp : RegisterPart p)
include hp

theorem RegisterPart.pc (c : Cpu) (pc : Addr) : p { c with pc := pc } = p c := hp c pc c.nmiPending c.jammed

theorem RegisterPart.memWrite (a : Addr) (v : Byte) (s : State) : p (memWrite a v s).cpu = p s.cpu := by
  rw [memWrite_cpu]
  exact hp s.cpu s.cpu.pc _ s.cpu.jammed

theorem RegisterPart.operand (m : Mode) (s : State) : p (operand m s).2.cpu = p s.cpu := by
  rw [operand_cpu]
  exact hp.pc s.cpu _

theorem readOp_keepsPart {f : Byte → Cpu → Cpu} (hf : ∀ b c, p (f b c) = p c) (m : Mode) (base : Nat) (penalty : Bool)
    (s : State) : KeepsPart p s (readOp m base penalty f s) := by
  refine keepsPart_finish ?_ _
  rw [State.mapCpu_cpu, hf, loadOperand_cpu, hp.operand]

theorem rmwOp_keepsPart {f : Byte → Cpu → Byte × Cpu} {g : Byte → Cpu → Cpu}
    (hfg : ∀ b nmi c, p (g (f b c).1 { (f b c).2 with nmiPending := nmi }) = p c) (m : Mode) (base : Nat) (s : State) :
    KeepsPart p s (rmwOp m base f g s) := by
  refine keepsPart_finish ?_ _
  rw [State.mapCpu_cpu, memWrite_cpu, hfg, memRead_cpu, hp.operand]

theorem unstableStoreOp_keepsPart {pre : Cpu → Cpu} (hpre : ∀ c, p (pre c) = p c) (m : Mode) (base : Nat) (v : Cpu → Byte)
    (s : State) : KeepsPart p s (unstableStoreOp m base pre v s) := by
  refine keepsPart_finish ?_ _
  rw [hp.memWrite, State.mapCpu_cpu, hpre, hp.operand]

theorem branchOp_keepsPart (off : Byte) (taken : Cpu → Bool) (s : State) : KeepsPart p s (branchOp off taken s) := by
  unfold branchOp
  dsimp only
  split
  · refine keepsPart_finish ?_ _
    rw [State.setPc_cpu, hp.pc, hp.operand]
  · exact keepsPart_finish (hp.operand _ s) _

theorem jamOp_keepsPart (s : State) : KeepsPart p s (jamOp s) := by
  unfold jamOp
  split
  · exact keepsPart_finish (hp s.cpu (s.cpu.pc + 1#16) s.cpu.nmiPending true) _
  · exact keepsPart_finish (hp.operand .imp s) _

/-- A part of the registers that a shape's functions keep is kept by its meaning, in every mode. -/
theorem Shape.run_keepsPart {k : Shape} (hk : k.Keeps p) (m : Mode) (s : State) : KeepsPart p s (k.run m s) := by
  have hpast : p (pastOpcode s).cpu = p s.cpu := hp.operand .imp s
  cases k with
  | read f => exact readOp_keepsPart hp (hk s.cfg) m _ _ s
  | store v => exact keepsPart_finish ((hp.memWrite _ _ _).trans (hp.operand m s)) _
  | unstable pre v => exact unstableStoreOp_keepsPart hp hk m _ v s
  | rmw f g => exact rmwOp_keepsPart hp hk m _ s
  | implied f => exact keepsPart_finish ((hk _).trans hpast) _
  | acc f => exact keepsPart_finish ((hk _).trans (hp.operand .acc s)) _
  | branch taken => exact branchOp_keepsPart hp _ taken s
  | jump =>
    refine keepsPart_finish ?_ _
    rw [State.setPc_cpu, hp.pc, hp.operand]
  | jam => exact jamOp_keepsPart hp s
  | pha | php =>
    refine keepsPart_finish ?_ _
    rw [push_cpu_s, hk, hpast]
  | pla | plp =>
    refine keepsPart_finish ?_ _
    rw [State.mapCpu_cpu, pull_cpu_s, hk, hpast]
  | jsr =>
    refine keepsPart_finish ?_ _
    rw [State.setPc_cpu, hp.pc, pushWord_cpu, hk, hp.operand]
  | rts =>
    refine keepsPart_finish ?_ _
    rw [State.setPc_cpu, hp.pc, pullWord_cpu, hk, hpast]
  | rti =>
    refine keepsPart_finish ?_ _
    rw [returnFromException, State.setPc_cpu, hp.pc, pullWord_cpu, State.mapCpu_cpu, pull_cpu_s, hk, hpast]
  | brk =>
    refine keepsPart_finish ?_ _
    rw [takeException, State.setPc_cpu, hp.pc, readVector_cpu, State.mapCpu_cpu, push_cpu_s, pushWord_cpu]
    exact (hk (pastOpcode s).cpu _).trans hpast

/-- What the shape of an instruction's mnemonic keeps, the instruction keeps. -/
theorem exec_keepsPart {i : Instr} (hk : (opShape i.mode i.op).Keeps p) {s t : State} (h : exec i s = .next t) :
    p t.cpu = p s.cpu :=
  Shape.run_keepsPart hp hk i.mode s t ((exec_eq_run i s).symm.trans h)

end

/-! ### The writers of each flag and of each register -/

section
variable (m : Mode) {op : Mnemonic}

theorem nopShape_keeps (p : Cpu → α) : (nopShape m).Keeps p := by
  cases m with
  | imp => exact fun _ => rfl
  | _ => exact fun _ _ _ => rfl

theorem shiftShape_keeps {p : Cpu → α} {f : Byte → Cpu → Byte × Cpu} (hmem : (Shape.rmw f Cpu.keep).Keeps p)
    (hacc : (Shape.acc f).Keeps p) : (shiftShape f m).Keeps p := by
  cases m with
  | acc => exact hacc
  | _ => exact hmem

theorem shiftShape_keeps_memory {p : Cpu → α} {f : Byte → Cpu → Byte × Cpu} (hmem : (Shape.rmw f Cpu.keep).Keeps p)
    (hm : m ≠ .acc) : (shiftShape f m).Keeps p := by
  cases m with
  | acc => exact absurd rfl hm
  | _ => exact hmem

theorem opShape_keeps_c (h : op ∉ [.adc, .sbc, .cmp, .cpx, .cpy, .asl, .lsr, .rol, .ror, .clc, .sec, .plp, .rti, .slo, .rla,
    .sre, .rra, .dcp, .isc, .anc, .alr, .arr, .axs, .usbc]) : (opShape m op).Keeps Cpu.c := by
  cases op with
  | adc | sbc | cmp | cpx | cpy | asl | lsr | rol | ror | clc | sec | plp | rti | slo | rla | sre | rra | dcp | isc | anc
  | alr | arr | axs | usbc => exact absurd (by decide) h
  | nop => exact nopShape_keeps m _
  | _ =>
    repeat intro _
    rfl

theorem opShape_keeps_zn (h : op ∈ [.sta, .stx, .sty, .sax, .sha, .shx, .shy, .tas, .txs, .pha, .php, .jmp, .jsr, .rts, .brk,
    .bpl, .bmi, .bvc, .bvs, .bcc, .bcs, .bne, .beq, .clc, .sec, .cli, .sei, .cld, .sed, .clv, .nop, .jam]) :
    (opShape m op).Keeps fun c => (c.z, c.n) := by
  cases op with
  | nop => exact nopShape_keeps m _
  | sta | stx | sty | sax | sha | shx | shy | tas | txs | pha | php | jmp | jsr | rts | brk | bpl | bmi | bvc | bvs | bcc
  | bcs | bne | beq | clc | sec | cli | sei | cld | sed | clv | jam =>
    repeat intro _
    rfl
  | _ => exact absurd h (by decide)

theorem opShape_keeps_v (h : op ∉ [.adc, .sbc, .bit, .clv, .plp, .rti, .rra, .isc, .arr, .usbc]) :
    (opShape m op).Keeps Cpu.v := by
  cases op with
  | adc | sbc | bit | clv | plp | rti | rra | isc | arr | usbc => exact absurd (by decide) h
  | asl | lsr | rol | ror => exact shiftShape_keeps m (fun _ _ _ => rfl) fun _ => rfl
  | nop => exact nopShape_keeps m _
  | _ =>
    repeat intro _
    rfl

theorem opShape_keeps_i (h : op ∉ [.sei, .cli, .plp, .rti, .brk]) : (opShape m op).Keeps Cpu.i := by
  cases op with
  | sei | cli | plp | rti | brk => exact absurd (by decide) h
  | asl | lsr | rol | ror => exact shiftShape_keeps m (fun _ _ _ => rfl) fun _ => rfl
  | nop => exact nopShape_keeps m _
  | _ =>
    repeat intro _
    rfl

theorem opShape_keeps_d (h : op ∉ [.sed, .cld, .plp, .rti]) : (opShape m op).Keeps Cpu.d := by
  cases op with
  | sed | cld | plp | rti => exact absurd (by decide) h
  | asl | lsr | rol | ror => exact shiftShape_keeps m (fun _ _ _ => rfl) fun _ => rfl
  | nop => exact nopShape_keeps m _
  | _ =>
    repeat intro _
    rfl

theorem opShape_keeps_a (h : op ∉ [.lda, .pla, .txa, .tya, .adc, .sbc, .and, .ora, .eor, .asl, .lsr, .rol, .ror, .slo, .rla,
    .sre, .rra, .lax, .isc, .anc, .alr, .arr, .xaa, .lxa, .las, .usbc]) : (opShape m op).Keeps Cpu.a := by
  cases op with
  | lda | pla | txa | tya | adc | sbc | and | ora | eor | asl | lsr | rol | ror | slo | rla | sre | rra | lax | isc | anc
  | alr | arr | xaa | lxa | las | usbc => exact absurd (by decide) h
  | nop => exact nopShape_keeps m _
  | _ =>
    repeat intro _
    rfl

/-- The memory forms of the shifts leave A alone. -/
theorem opShape_keeps_a_memory (h : op ∈ [.asl, .lsr, .rol, .ror]) (hm : m ≠ .acc) : (opShape m op).Keeps Cpu.a := by
  cases op with
  | asl | lsr | rol | ror => exact shiftShape_keeps_memory m (fun _ _ _ => rfl) hm
  | _ => exact absurd h (by decide)

theorem opShape_keeps_x (h : op ∉ [.ldx, .tax, .tsx, .inx, .dex, .lax, .lxa, .axs, .las]) :
    (opShape m op).Keeps Cpu.x := by
  cases op with
  | ldx | tax | tsx | inx | dex | lax | lxa | axs | las => exact absurd (by decide) h
  | asl | lsr | rol | ror => exact shiftShape_keeps m (fun _ _ _ => rfl) fun _ => rfl
  | nop => exact nopShape_keeps m _
  | _ =>
    repeat intro _
    rfl

theorem opShape_keeps_y (h : op ∉ [.ldy, .tay, .iny, .dey]) : (opShape m op).Keeps Cpu.y := by
  cases op with
  | ldy | tay | iny | dey => exact absurd (by decide) h
  | asl | lsr | rol | ror => exact shiftShape_keeps m (fun _ _ _ => rfl) fun _ => rfl
  | nop => exact nopShape_keeps m _
  | _ =>
    repeat intro _
    rfl

theorem opShape_keeps_s (h : op ∉ [.txs, .pha, .php, .pla, .plp, .jsr, .rts, .rti, .brk, .tas, .las]) :
    (opShape m op).Keeps Cpu.s := by
  cases op with
  | txs | pha | php | pla | plp | jsr | rts | rti | brk | tas | las => exact absurd (by decide) h
  | asl | lsr | rol | ror => exact shiftShape_keeps m (fun _ _ _ => rfl) fun _ => rfl
  | nop => exact nopShape_keeps m _
  | _ =>
    repeat intro _
    rfl

end

/-- Settles O34: a shape that does not write a flag keeps it, and which shapes write it is read off the table of mnemonics. -/
theorem flagWriters : Obligations.FlagWriters := by
  intro i s t h
  have hreg : ∀ {α : Type} {p : Cpu → α}, RegisterPart p → (opShape i.mode i.op).Keeps p → p t.cpu = p s.cpu :=
    fun hp hk => exec_keepsPart hp hk h
  refine ⟨fun hop => ?c, fun hop => ?zn, fun hop => ?v, fun hop => ?i, fun hop => ?d⟩
  case c => exact hreg (fun _ _ _ _ => rfl) (opShape_keeps_c _ hop)
  case zn => exact Prod.mk.inj (hreg (p := fun c => (c.z, c.n)) (fun _ _ _ _ => rfl) (opShape_keeps_zn _ hop))
  case v => exact hreg (fun _ _ _ _ => rfl) (opShape_keeps_v _ hop)
  case i => exact hreg (fun _ _ _ _ => rfl) (opShape_keeps_i _ hop)
  case d => exact hreg (fun _ _ _ _ => rfl) (opShape_keeps_d _ hop)

/-- Settles O35: as for the flags, register by register; of the shifts only the accumulator form writes A. -/
theorem registerWriters : Obligations.RegisterWriters := by
  intro i s t h
  have hreg : ∀ {α : Type} {p : Cpu → α}, RegisterPart p → (opShape i.mode i.op).Keeps p → p t.cpu = p s.cpu :=
    fun hp hk => exec_keepsPart hp hk h
  refine ⟨fun hop => ?a, fun hop hm => ?aMemory, fun hop => ?x, fun hop => ?y, fun hop => ?s⟩
  case a => exact hreg (fun _ _ _ _ => rfl) (opShape_keeps_a _ hop)
  case aMemory => exact hreg (fun _ _ _ _ => rfl) (opShape_keeps_a_memory _ hop hm)
  case x => exact hreg (fun _ _ _ _ => rfl) (opShape_keeps_x _ hop)
  case y => exact hreg (fun _ _ _ _ => rfl) (opShape_keeps_y _ hop)
  case s => exact hreg (fun _ _ _ _ => rfl) (opShape_keeps_s _ hop)

end Sys2Proof.Machine
end

section
/-! The addressing family: the effective address of every mode in plain arithmetic, and what resolving and reading an operand
change. -/
namespace Sys2Proof.Machine

open Sys2Proof.Safety

/-! ### Addresses in plain arithmetic -/

theorem zext16_toNat (b : Byte) : (zext16 b).toNat = b.toNat := BitVec.toNat_setWidth_of_le (by decide)

/-- R136, R137: zero-page indexing wraps inside page zero. -/
theorem zext16_add_toNat (z index : Byte) : (zext16 (z + index)).toNat = (z.toNat + index.toNat) % 256 := by
  rw [zext16_toNat, BitVec.toNat_add]

theorem zext16_plain (b : Byte) : PlainAddr (zext16 b) := by
  refine .inl ?_
  rw [zext16_toNat]
  omega

theorem word_toNat (h l : Byte) : (word h l).toNat = 256 * h.toNat + l.toNat := append_toNat h l

theorem lo_toNat (w : Addr) : (lo w).toNat = w.toNat % 256 := BitVec.toNat_setWidth _ _

theorem pageDiffers_eq (a b : Addr) : pageDiffers a b = decide (a.toNat / 256 ≠ b.toNat / 256) := by
  rw [Bool.eq_iff_iff, ← Bool.not_eq_false, pageDiffers_eq_false_iff, decide_eq_true_iff]

/-- R139, R140: absolute indexing wraps modulo 65536 and crosses when the page differs. -/
theorem indexed_eq (base : Addr) (index : Byte) : ∃ e : Addr, e.toNat = (base.toNat + index.toNat) % 65536 ∧
    Resolved.indexed base index =
      { ea := e, base := base, crossed := decide (e.toNat / 256 ≠ base.toNat / 256) } := by
  refine ⟨base + zext16 index, ?_, ?_⟩
  · rw [BitVec.toNat_add, zext16_toNat]
  · rw [Resolved.indexed, pageDiffers_eq]

/-- Settles O11: an effective address without a pointer is an operand byte, a word, or one of them indexed. -/
theorem directAddresses : Obligations.DirectAddresses := by
  intro s z a
  refine ⟨rfl, ⟨_, rfl, zext16_toNat z⟩, ⟨_, rfl, zext16_add_toNat z s.cpu.x⟩,
    ⟨_, rfl, zext16_add_toNat z s.cpu.y⟩, rfl,
    ?abx, ?aby⟩
  case abx =>
    obtain ⟨e, he, hindexed⟩ := indexed_eq a s.cpu.x
    exact ⟨e, congrArg (·, s) hindexed, he⟩
  case aby =>
    obtain ⟨e, he, hindexed⟩ := indexed_eq a s.cpu.y
    exact ⟨e, congrArg (·, s) hindexed, he⟩

/-! ### Pointers -/

/-- R142, R143: both bytes of a zero-page pointer are read inside page zero, which changes nothing. -/
theorem zeroPagePointer_eq {z : Byte} {z0 z1 : Addr} (h0 : z0.toNat = z.toNat) (h1 : z1.toNat = (z.toNat + 1) % 256)
    (s : State) : zeroPagePointer z s = (word (memRead z1 s).1 (memRead z0 s).1, s) := by
  obtain rfl : z0 = zext16 z := BitVec.eq_of_toNat_eq (h0.trans (zext16_toNat z).symm)
  obtain rfl : z1 = zext16 (z + 1#8) := BitVec.eq_of_toNat_eq (h1.trans (zext16_add_toNat z 1#8).symm)
  rw [zeroPagePointer, memRead_plain (zext16_plain _), memRead_plain (zext16_plain _)]

theorem zeroPagePointer_snd (z : Byte) (s : State) : (zeroPagePointer z s).2 = s := by
  rw [zeroPagePointer_eq (zext16_toNat z) (zext16_add_toNat z 1#8)]

/-- R141: the second byte of JMP's pointer comes from the pointer's own page. -/
theorem indirectPointer_eq {p q : Addr} (h : q.toNat = p.toNat / 256 * 256 + (p.toNat + 1) % 256) (s : State) :
    indirectPointer p s =
      (word (memRead q (memRead p s).2).1 (memRead p s).1, (memRead q (memRead p s).2).2) := by
  have hq : word (hi p) (lo p + 1#8) = q := by
    refine BitVec.eq_of_toNat_eq ?_
    rw [h, word_toNat, BitVec.toNat_add, hi_toNat, lo_toNat, BitVec.toNat_ofNat]
    omega
  rw [indirectPointer, hq]

/-- Settles O12: each clause is its pointer's lemma, the zero-page index of IZX added before the pointer is read. -/
theorem pointerAddresses : Obligations.PointerAddresses := by
  intro s z p q z0 z1
  refine ⟨fun h0 h1 => ?izx, fun h0 h1 => ?izy, fun hq => ?ind⟩
  case izx =>
    have hz0 : z0.toNat = (z + s.cpu.x).toNat := h0.trans (BitVec.toNat_add _ _).symm
    have hz1 : z1.toNat = ((z + s.cpu.x).toNat + 1) % 256 := by
      rw [h1, BitVec.toNat_add, Nat.mod_add_mod]
    rw [resolve, zeroPagePointer_eq hz0 hz1]
  case izy =>
    obtain ⟨e, he, hindexed⟩ := indexed_eq (word (memRead z1 s).1 (memRead z0 s).1) s.cpu.y
    refine ⟨e, he, ?_⟩
    rw [resolve, zeroPagePointer_eq h0 h1, hindexed]
  case ind => rw [resolve, indirectPointer_eq hq]

/-! ### What an operand's reads change -/

/-- R131: a mode without a pointer outside page zero resolves without a side effect. -/
theorem resolve_snd {m : Mode} (h : ∀ p, m ≠ .ind p) (s : State) : (resolve m s).2 = s := by
  cases m with
  | ind p => exact absurd rfl (h p)
  | izx z => exact zeroPagePointer_snd (z + s.cpu.x) s
  | izy z => exact zeroPagePointer_snd z s
  | _ => rfl

theorem operand_snd {m : Mode} (h : ∀ p, m ≠ .ind p) (s : State) :
    (operand m s).2 = { s with cpu := { s.cpu with pc := s.cpu.pc + BitVec.ofNat 16 m.length } } := by
  rw [operand, resolve_snd h]
  rfl

/-- Resolving an operand only reads, once PC is past the instruction. -/
theorem operand_readStep (m : Mode) (s : State) :
    ReadStep { s with cpu := { s.cpu with pc := s.cpu.pc + BitVec.ofNat 16 m.length } } (operand m s).2 := by
  obtain ⟨vblank, w, buffer, v, frameIrq, shift, hread⟩ := resolve_readStep m s
  rw [operand, hread]
  exact ⟨vblank, w, buffer, v, frameIrq, shift, rfl⟩

theorem loadOperand_quiet {m : Mode} {ea : Addr} (h : QuietAddr ea) (s : State) : (loadOperand m ea s).2 = s := by
  cases m with
  | imm v => rfl
  | _ => exact memRead_quiet h s

/-- Settles O13: an operand is resolved and read by Bus reads alone, which change what `ReadStep` lists and no byte of memory;
at a quiet address they change nothing. -/
theorem operandReadFrame : Obligations.OperandReadFrame := by
  intro m s r l c
  have hread : ReadStep { s with cpu := c } l.2 := (operand_readStep m s).trans (loadOperand_readStep m _ _)
  refine ⟨hread, fun a ha _ => memRead_plain_congr ha hread.ram_eq hread.mapper_eq hread.cfg_eq, fun hm hquiet => ?_⟩
  exact (loadOperand_quiet hquiet r.2).trans (operand_snd hm s)

end Sys2Proof.Machine
end

section
/-! The result family: the whole next state of every instruction that reads, stores or does both, in plain arithmetic, and
what a store leaves unchanged. -/
namespace Sys2Proof.Machine

open Sys2Proof.Safety

/-! ### Instructions that read -/

/-- The cycles of a read shape are those of R831's class read. -/
theorem cost_read (m : Mode) (crossed : Bool) :
    cost (readCycles m false) (Mode.penalty m) crossed = readCycles m crossed := by
  cases m <;> cases crossed <;> rfl

/-- The next state of an instruction whose shape is one read of its operand and `f` on the registers, which `c` are then. -/
theorem exec_read {i : Instr} {f : Config.Params → Byte → Cpu → Cpu} {s : State} {c : Cpu}
    (h : opShape i.mode i.op = .read f)
    (hc : f s.cfg (loadOperand i.mode (operand i.mode s).1.ea (operand i.mode s).2).1
      { s.cpu with pc := s.cpu.pc + BitVec.ofNat 16 i.length } = c) :
    exec i s =
      let r := operand i.mode s
      let m := loadOperand i.mode r.1.ea r.2
      .next { m.2 with cpu := c, cpuReturn := readCycles i.mode r.1.crossed } := by
  rw [exec_eq_run, h, ← hc]
  exact readOp_eq (cost_read i.mode) (f s.cfg) s

/-- Settles O14: each is a read whose function loads its registers with the byte. -/
theorem loadResults : Obligations.LoadResults := by
  intro i s r m t
  have hshape : ∀ {op : Mnemonic}, i.op = op → opShape i.mode i.op = opShape i.mode op := congrArg _
  refine ⟨fun hop => ?lda, fun hop => ?ldx, fun hop => ?ldy, fun hop => ?lax, fun hop => ?las⟩
  case lda => exact exec_read (hshape hop) rfl
  case ldx => exact exec_read (hshape hop) rfl
  case ldy => exact exec_read (hshape hop) rfl
  case lax => exact exec_read (hshape hop) rfl
  case las => exact exec_read (hshape hop) rfl

/-- Settles O22: AND, ORA and EOR load A, the compares and BIT set flags; each function is its rule as written. -/
theorem logicAndCompareResults : Obligations.LogicAndCompareResults := by
  intro i s r m t logic compared
  have hshape : ∀ {op : Mnemonic}, i.op = op → opShape i.mode i.op = opShape i.mode op := congrArg _
  refine ⟨fun hop => ?and, fun hop => ?ora, fun hop => ?eor, fun hop => ?cmp, fun hop => ?cpx, fun hop => ?cpy,
    fun hop => ?bit⟩
  case and => exact exec_read (hshape hop) rfl
  case ora => exact exec_read (hshape hop) rfl
  case eor => exact exec_read (hshape hop) rfl
  case cmp => exact exec_read (hshape hop) rfl
  case cpx => exact exec_read (hshape hop) rfl
  case cpy => exact exec_read (hshape hop) rfl
  case bit => exact exec_read (hshape hop) rfl

/-! ### Addition in plain arithmetic -/

/-- A byte's bit 7 says whether its signed value is negative. -/
theorem byte_toInt (v : Byte) : v.toInt = (v.toNat : Int) - if v.getLsbD 7 then 256 else 0 := by
  have hmsb : v.getLsbD 7 = decide (128 ≤ v.toNat) := BitVec.msb_eq_decide v
  rw [BitVec.toInt_eq_toNat_cond, hmsb]
  simp only [decide_eq_true_eq]
  split <;> split <;> omega

/-- R230: overflow shows as a result whose sign is that of neither operand. -/
theorem overflow_eq (a m : Byte) (c : Bool) :
    (~~~(a ^^^ m) &&& (a ^^^ BitVec.ofNat 8 (a.toNat + m.toNat + c.toNat))).getLsbD 7 =
      decide (a.toInt + m.toInt + c.toNat < -128 ∨ 127 < a.toInt + m.toInt + c.toNat) := by
  have ha : a.getLsbD 7 = decide (128 ≤ a.toNat) := BitVec.msb_eq_decide a
  have hm : m.getLsbD 7 = decide (128 ≤ m.toNat) := BitVec.msb_eq_decide m
  have hr := BitVec.msb_eq_decide (BitVec.ofNat 8 (a.toNat + m.toNat + c.toNat))
  have hc := c.toNat_le
  have := a.isLt
  have := m.isLt
  rw [byte_toInt, byte_toInt, BitVec.getLsbD_and, BitVec.getLsbD_not, BitVec.getLsbD_xor, BitVec.getLsbD_xor,
    show BitVec.getLsbD (BitVec.ofNat 8 (a.toNat + m.toNat + c.toNat)) 7 = _ from hr, ha, hm, BitVec.toNat_ofNat]
  rw [Bool.eq_iff_iff]
  by_cases h1 : 128 ≤ a.toNat <;> by_cases h2 : 128 ≤ m.toNat <;> simp [h1, h2] <;> omega

/-- The two results' Z and N read off the sum modulo 256. -/
theorem byte_zero_eq (n : Nat) : decide (BitVec.ofNat 8 n = 0#8) = decide (n % 256 = 0) :=
  decide_eq_decide.mpr (by rw [← BitVec.toNat_inj, BitVec.toNat_ofNat, BitVec.toNat_zero])

theorem byte_negative_eq (n : Nat) : (BitVec.ofNat 8 n).getLsbD 7 = decide (128 ≤ n % 256) :=
  (BitVec.msb_eq_decide (BitVec.ofNat 8 n)).trans (by rw [BitVec.toNat_ofNat])

/-- R231: ADC is binary addition. -/
theorem Cpu.adc_eq (m : Byte) (c : Cpu) : c.adc m = added m c.c c := by
  rw [adc, adcCore, setZN, byte_zero_eq, byte_negative_eq]
  dsimp only
  rw [adcSum, overflow_eq]
  rfl

/-- R232: adding the complement of `m` and a carry is subtracting `m` and the borrow. -/
theorem added_not (m : Byte) (carry : Bool) (c : Cpu) : added (~~~m) carry c = subtracted m (!carry) c := by
  have hm : (~~~m).toNat = 255 - m.toNat := BitVec.toNat_not
  have hlt := m.isLt
  have hmi : (~~~m).toInt = -1 - m.toInt := by
    rw [byte_toInt, byte_toInt, hm, BitVec.getLsbD_not]
    cases m.getLsbD 7 <;> simp <;> omega
  have hcarry : (!carry).toNat = 1 - carry.toNat := by cases carry <;> rfl
  have hle := carry.toNat_le
  have ha : BitVec.ofNat 8 (c.a.toNat + (~~~m).toNat + carry.toNat) = c.a - m - (if (!carry) = true then 1#8 else 0#8) := by
    cases carry <;> simp [hm] <;> bv_omega
  have hv : c.a.toInt + (~~~m).toInt + carry.toNat = c.a.toInt - m.toInt - (!carry).toNat := by
    rw [hmi, hcarry]
    omega
  unfold added subtracted
  dsimp only
  rw [← byte_zero_eq, ← byte_negative_eq, ha, hv]
  simp only [Cpu.mk.injEq, true_and, and_true, and_self, decide_eq_decide]
  omega

theorem Cpu.sbc_eq (m : Byte) (c : Cpu) : c.sbc m = subtracted m (!c.c) c := by
  have hnot : m ^^^ 0xFF#8 = ~~~m := (BitVec.xor_comm _ _).trans (BitVec.not_def).symm
  rw [← added_not, ← adc_eq, sbc, adc, hnot]

/-- Settles O21: each is a read whose function is the addition of the byte, or of its complement. -/
theorem addSubtractResults : Obligations.AddSubtractResults := by
  intro i s r m t
  have hshape : ∀ {op : Mnemonic}, i.op = op → opShape i.mode i.op = opShape i.mode op := congrArg _
  refine ⟨fun hop => ?adc, fun hop => ?sbc⟩
  case adc =>
    exact exec_read (hshape hop) (Cpu.adc_eq _ _)
  case sbc =>
    have hsbc : opShape i.mode i.op = .read fun _ => Cpu.sbc := by
      rcases hop with hop | hop <;> exact hshape hop
    exact exec_read hsbc (Cpu.sbc_eq _ _)

end Sys2Proof.Machine
end

section
/-! The store family: what a store leaves unchanged, the shifts and rotations in plain arithmetic, and the whole next state of
every instruction that stores. -/
namespace Sys2Proof.Machine

open Sys2Proof.Safety

/-! ### The frame of a store -/

/-- A store to a plain address reaches work RAM alone. -/
theorem memWrite_plain {a : Addr} (h : PlainAddr a) (v : Byte) (s : State) :
    ∃ ram, memWrite a v s = { s with ram := ram } := by
  rcases h with h | h
  · exact ⟨_, memWrite_ram (by omega) v s⟩
  · exact ⟨s.ram, memWrite_high h v s⟩

/-- A store from the state `u`, where PC is past an instruction of the given length and only reads have happened, has the
store's frame, if those reads changed nothing when the address is plain. -/
theorem storeFrame_memWrite {ea : Addr} {n : Nat} {s u : State}
    (hread : ReadStep { s with cpu := { s.cpu with pc := s.cpu.pc + BitVec.ofNat 16 n } } u)
    (hquiet : PlainAddr ea → u = { s with cpu := { s.cpu with pc := s.cpu.pc + BitVec.ofNat 16 n } }) (v : Byte) :
    StoreFrame ea n s (memWrite ea v u) := by
  refine ⟨?cpu, ?devices, ?memory⟩
  case cpu =>
    rw [memWrite_cpu, hread.cpu_eq]
  case devices =>
    intro hplain
    obtain ⟨ram, hw⟩ := memWrite_plain hplain v u
    rw [hw, hquiet hplain]
    exact ⟨rfl, rfl, rfl, rfl, rfl, rfl, rfl⟩
  case memory =>
    intro hwf a ha hn
    have hkept : (memRead a u).1 = (memRead a s).1 :=
      memRead_plain_congr ha hread.ram_eq hread.mapper_eq hread.cfg_eq
    exact (memWrite_memoryKept (hread.ram_eq ▸ hwf) ea v a ha hn).trans hkept

/-- Only JMP has the mode IND (R141). -/
theorem mode_ne_ind {i : Instr} (h : i.op ≠ .jmp) : ∀ p, i.mode ≠ .ind p := by
  intro p hp
  cases i with
  | jmpInd a => exact h rfl
  | _ => cases hp

section
variable {i : Instr} (hop : i.op ≠ .jmp) (s : State)
include hop

/-- The frame of a store that follows the operand at once. -/
theorem storeFrame_operand (ea : Addr) (v : Byte) : StoreFrame ea i.length s (memWrite ea v (operand i.mode s).2) :=
  storeFrame_memWrite (operand_readStep i.mode s) (fun _ => operand_snd (mode_ne_ind hop) s) v

/-- The frame of a store that follows one read of the same address. -/
theorem storeFrame_memRead (ea : Addr) (v : Byte) :
    StoreFrame ea i.length s (memWrite ea v (memRead ea (operand i.mode s).2).2) :=
  storeFrame_memWrite ((operand_readStep i.mode s).trans (memRead_readStep _ _))
    (fun hplain => (memRead_plain hplain _).trans (operand_snd (mode_ne_ind hop) s)) v

end

/-! ### Instructions that write -/

/-- The returned count is no part of a store's frame. -/
theorem storeFrame_cpuReturn {ea : Addr} {n : Nat} {s w : State} (h : StoreFrame ea n s w) (k : Nat) :
    StoreFrame ea n s { w with cpuReturn := k } := by
  obtain ⟨hcpu, hdevices, hmemory⟩ := h
  exact ⟨hcpu, hdevices, fun hwf a ha hn =>
    (memRead_plain_congr (s := w) (t := { w with cpuReturn := k }) ha rfl rfl rfl).trans (hmemory hwf a ha hn)⟩

/-- The next state of an instruction whose shape is one store of the byte `b` of the registers. -/
theorem exec_store {i : Instr} {v : Cpu → Byte} {b : Byte} {s : State} (h : opShape i.mode i.op = .store v)
    (hb : v { s.cpu with pc := s.cpu.pc + BitVec.ofNat 16 i.length } = b) :
    exec i s = .next { memWrite (operand i.mode s).1.ea b (operand i.mode s).2 with cpuReturn := writeCycles i.mode } := by
  rw [exec_eq_run, h, ← hb, Instr.length, ← operand_cpu]
  rfl

/-- Settles O15: each stores one byte of the registers, and the store has the frame of `storeFrame_operand`. -/
theorem storeResults : Obligations.StoreResults := by
  intro i s r t
  have hshape : ∀ {op : Mnemonic}, i.op = op → opShape i.mode i.op = opShape i.mode op := congrArg _
  refine ⟨fun hop => ?sta, fun hop => ?stx, fun hop => ?sty, fun hop => ?sax, fun hop v => ⟨?frame, ?stored⟩⟩
  case sta => exact exec_store (hshape hop) rfl
  case stx => exact exec_store (hshape hop) rfl
  case sty => exact exec_store (hshape hop) rfl
  case sax => exact exec_store (hshape hop) rfl
  case frame =>
    have hjmp : i.op ≠ .jmp := fun h => absurd (h ▸ hop) (by decide)
    exact storeFrame_cpuReturn (storeFrame_operand hjmp s r.1.ea v) _
  case stored =>
    intro hwf hea
    have hram : r.2.ram = s.ram := (operand_readStep i.mode s).ram_eq
    calc (memRead r.1.ea (t v)).1
        = (memRead r.1.ea (memWrite r.1.ea v r.2)).1 := memRead_plain_congr (.inl hea) rfl rfl rfl
      _ = v := by rw [memRead_memWrite_ram hea hea (hram ▸ hwf), if_pos rfl]

/-- A function on the registers in which the NMI latch plays no part. -/
def KeepsNmi (u : Cpu → Cpu) : Prop := ∀ c nmi, u { c with nmiPending := nmi } = { u c with nmiPending := nmi }

/-- A store and a function on the registers may trade places: a store reads no register and sets the NMI latch alone. -/
theorem memWrite_mapCpu {u : Cpu → Cpu} (hu : KeepsNmi u) (a : Addr) (v : Byte) (s : State) :
    memWrite a v (s.mapCpu u) = (memWrite a v s).mapCpu u := by
  have hself : u s.cpu = { u s.cpu with nmiPending := s.cpu.nmiPending } := hu s.cpu s.cpu.nmiPending
  have hnmi : (u s.cpu).nmiPending = s.cpu.nmiPending := (congrArg Cpu.nmiPending hself).trans rfl
  rw [State.mapCpu, memWrite_withCpu a v _ s hnmi, ← hu, ← memWrite_cpu]
  rfl

/-- The next state of an unstable store of the byte `b` of the registers, which `pre` changes first. -/
theorem exec_unstable {i : Instr} {pre : Cpu → Cpu} {v : Cpu → Byte} {b : Byte} {s : State}
    (h : opShape i.mode i.op = .unstable pre v) (hpre : KeepsNmi pre)
    (hb : v (pre { s.cpu with pc := s.cpu.pc + BitVec.ofNat 16 i.length }) = b) :
    exec i s =
      let r := operand i.mode s
      let stored := b &&& (hi r.1.base + 1#8)
      let w := memWrite (if r.1.crossed then word stored (lo r.1.ea) else r.1.ea) stored r.2
      .next { w with cpu := pre w.cpu, cpuReturn := writeCycles i.mode } := by
  have hv : v (pre (operand i.mode s).2.cpu) = b := by rw [operand_cpu]; exact hb
  simp only [exec_eq_run, h, Shape.run, unstableStoreOp, State.mapCpu_cpu, hv, memWrite_mapCpu hpre]
  rfl

/-- Settles O31: each stores its byte, ANDed, at the address that byte may replace the page of; TAS sets S first. -/
theorem unstableStoreResults : Obligations.UnstableStoreResults := by
  intro i s r v ea w t
  have hshape : ∀ {op : Mnemonic}, i.op = op → opShape i.mode i.op = opShape i.mode op := congrArg _
  refine ⟨fun hop => ?sha, fun hop => ?shx, fun hop => ?shy, fun hop => ?tas, fun hop b => ?frame⟩
  case sha => exact exec_unstable (hshape hop) (fun _ _ => rfl) rfl
  case shx => exact exec_unstable (hshape hop) (fun _ _ => rfl) rfl
  case shy => exact exec_unstable (hshape hop) (fun _ _ => rfl) rfl
  case tas =>
    have hs : (w (s.cpu.a &&& s.cpu.x)).cpu.a &&& (w (s.cpu.a &&& s.cpu.x)).cpu.x = s.cpu.a &&& s.cpu.x := by
      rw [memWrite_cpu, operand_cpu]
    refine (exec_unstable (hshape hop) (fun _ _ => rfl) rfl).trans ?_
    show Host.Outcome.next { w (s.cpu.a &&& s.cpu.x) with
      cpu := Cpu.tasS (w (s.cpu.a &&& s.cpu.x)).cpu, cpuReturn := writeCycles i.mode } = _
    rw [Cpu.tasS, hs]
  case frame => exact storeFrame_operand (fun h => absurd (h ▸ hop) (by decide)) s (ea b) (v b)

/-! ### Shifts in plain arithmetic -/

/-- R250: a left shift doubles the byte, modulo 256. -/
theorem byte_shiftLeft_one (v : Byte) : v <<< 1 = (shiftedLeft v).1 := by
  refine BitVec.eq_of_toNat_eq ?_
  rw [shiftedLeft, BitVec.toNat_shiftLeft, BitVec.toNat_ofNat, Nat.shiftLeft_eq, pow_one, Nat.mul_comm]

/-- R250: the bit a left shift drops says whether the byte is 128 or more. -/
theorem byte_bit_seven (v : Byte) : v.getLsbD 7 = (shiftedLeft v).2 := BitVec.msb_eq_decide v

/-- R250: a left rotation doubles the byte, and the old carry is added to an even number. -/
theorem byte_rotateLeft (c : Bool) (v : Byte) : (v <<< 1) ||| flagByte c = (rotatedLeft c v).1 := by
  have hc : (flagByte c).toNat = c.toNat := by cases c <;> rfl
  have hor : 2 * v.toNat % 256 ||| c.toNat = 2 * v.toNat % 256 + c.toNat := by
    have h := Nat.two_pow_add_eq_or_of_lt (i := 1) (b := c.toNat) (by have := c.toNat_le; omega) (v.toNat % 128)
    rw [show 2 * v.toNat % 256 = 2 ^ 1 * (v.toNat % 128) by omega, h]
  refine BitVec.eq_of_toNat_eq ?_
  rw [rotatedLeft, BitVec.toNat_or, byte_shiftLeft_one, shiftedLeft, BitVec.toNat_ofNat, hc, hor, BitVec.toNat_ofNat]
  have := c.toNat_le
  omega

/-- The registers after a shift with the byte and the carry `p`: C, Z and N. -/
def Cpu.shifted (p : Byte × Bool) (c : Cpu) : Cpu := { c with c := p.2, z := decide (p.1 = 0#8), n := p.1.getLsbD 7 }

theorem Cpu.asl_eq (v : Byte) (c : Cpu) : c.asl v = ((shiftedLeft v).1, c.shifted (shiftedLeft v)) := by
  rw [asl, byte_shiftLeft_one, byte_bit_seven]
  rfl

theorem Cpu.lsr_eq_shifted (v : Byte) (c : Cpu) : c.lsr v = ((shiftedRight v).1, c.shifted (shiftedRight v)) := lsr_eq v c

theorem Cpu.rol_eq (v : Byte) (c : Cpu) : c.rol v = ((rotatedLeft c.c v).1, c.shifted (rotatedLeft c.c v)) := by
  rw [rol, byte_rotateLeft, byte_bit_seven]
  rfl

theorem Cpu.ror_eq (v : Byte) (c : Cpu) : c.ror v = ((rotatedRight c.c v).1, c.shifted (rotatedRight c.c v)) := by
  rw [ror, byte_rotateRight, byte_bit_zero]
  rfl

theorem keepsNmi_shifted (p : Byte × Bool) : KeepsNmi (Cpu.shifted p) := fun _ _ => rfl

/-- A shift of A with the byte and the carry `p`. -/
theorem accOp_eq {f : Byte → Cpu → Byte × Cpu} {p : Byte × Bool} {s : State}
    (hf : f s.cpu.a { s.cpu with pc := s.cpu.pc + 1#16 } = (p.1, Cpu.shifted p { s.cpu with pc := s.cpu.pc + 1#16 })) :
    accOp 2 f s = .next { s with
      cpu := { s.cpu with
        pc := s.cpu.pc + 1#16, a := p.1, c := p.2, z := decide (p.1 = 0#8), n := p.1.getLsbD 7 }
      cpuReturn := 2 } := by
  show Host.Outcome.next { s with
    cpu := { (f s.cpu.a { s.cpu with pc := s.cpu.pc + 1#16 }).2 with
      a := (f s.cpu.a { s.cpu with pc := s.cpu.pc + 1#16 }).1 }
    cpuReturn := 2 } = _
  rw [hf]
  rfl

/-- Settles O23: each is its shift of A in plain arithmetic. -/
theorem accumulatorShiftResults : Obligations.AccumulatorShiftResults := by
  intro s t
  refine ⟨?asl, ?lsr, ?rol, ?ror⟩
  case asl => exact (exec_aslAcc s).trans (accOp_eq (Cpu.asl_eq _ _))
  case lsr => exact (exec_lsrAcc s).trans (accOp_eq (Cpu.lsr_eq_shifted _ _))
  case rol => exact (exec_rolAcc s).trans (accOp_eq (Cpu.rol_eq _ _))
  case ror => exact (exec_rorAcc s).trans (accOp_eq (Cpu.ror_eq _ _))

/-! ### Instructions that read and write -/

section
variable {i : Instr} {f : Byte → Cpu → Byte × Cpu} {g : Byte → Cpu → Cpu} {u F : Cpu → Cpu} {b : Byte} {s : State}

/-- The next state of an instruction whose shape is one read and one write: when `f` gives the byte `b` and changes the
registers by `u`, the write of `b` comes before `u`, and `F` is `u` followed by the second operation. -/
theorem exec_rmw (h : opShape i.mode i.op = .rmw f g) (hu : KeepsNmi u)
    (hf : ∀ c : Cpu, c.c = s.cpu.c → f (memRead (operand i.mode s).1.ea (operand i.mode s).2).1 c = (b, u c))
    (hF : ∀ c : Cpu, c.a = s.cpu.a → c.c = s.cpu.c → g b (u c) = F c) :
    exec i s =
      let r := operand i.mode s
      let w := memWrite r.1.ea b (memRead r.1.ea r.2).2
      .next { w with cpu := F w.cpu, cpuReturn := rmwCycles i.mode } := by
  let l := memRead (operand i.mode s).1.ea (operand i.mode s).2
  let w := memWrite (operand i.mode s).1.ea b l.2
  have hl : l.2.cpu = { s.cpu with pc := s.cpu.pc + BitVec.ofNat 16 i.length } := (memRead_cpu _ _).trans (operand_cpu _ s)
  have hw : w.cpu = { l.2.cpu with nmiPending := w.cpu.nmiPending } := memWrite_cpu _ _ _
  have hfl : f l.1 l.2.cpu = (b, u l.2.cpu) := hf _ (by rw [hl])
  have hrun : rmwOp i.mode (rmwCycles i.mode) f g s = .next { w with cpu := g b (u w.cpu), cpuReturn := rmwCycles i.mode } := by
    show finish _ ((memWrite _ (f l.1 l.2.cpu).1 { l.2 with cpu := (f l.1 l.2.cpu).2 }).mapCpu
      (g (f l.1 l.2.cpu).1)) = _
    rw [hfl]
    exact congrArg (fun t : State => finish _ (t.mapCpu (g b))) (memWrite_mapCpu hu _ b l.2)
  rw [exec_eq_run, h]
  refine hrun.trans ?_
  rw [hF w.cpu (by rw [hw, hl]) (by rw [hw, hl])]

/-- A shift or rotation of memory followed by the logical operation `k` on A and the byte written. -/
theorem exec_rmw_logic {p : Byte × Bool} {k : Byte → Byte → Byte} (h : opShape i.mode i.op = .rmw f g)
    (hf : ∀ c : Cpu, c.c = s.cpu.c → f (memRead (operand i.mode s).1.ea (operand i.mode s).2).1 c = (p.1, c.shifted p))
    (hg : ∀ b c, g b c = Cpu.loadA (k c.a b) c) :
    exec i s =
      let r := operand i.mode s
      let w := memWrite r.1.ea p.1 (memRead r.1.ea r.2).2
      let v := k s.cpu.a p.1
      .next { w with
        cpu := { w.cpu with a := v, c := p.2, z := decide (v = 0#8), n := v.getLsbD 7 }, cpuReturn := rmwCycles i.mode } := by
  refine exec_rmw (F := fun c => Cpu.loadA (k s.cpu.a p.1) { c with c := p.2 }) h (keepsNmi_shifted p) hf fun c ha _ => ?_
  rw [hg, ← ha]
  rfl

end

/-- A shift or rotation of memory has the shape of one read and one write. -/
theorem shiftShape_memory (f : Byte → Cpu → Byte × Cpu) {m : Mode} (hm : m ≠ .acc) : shiftShape f m = .rmw f Cpu.keep := by
  cases m with
  | acc => exact absurd rfl hm
  | _ => rfl

/-- Settles O24: each reads, changes the byte by its shift or count in plain arithmetic, and writes it back. -/
theorem memoryShiftAndCountResults : Obligations.MemoryShiftAndCountResults := by
  intro i s r m w t shift
  have hshape : ∀ {op : Mnemonic}, i.op = op → opShape i.mode i.op = opShape i.mode op := congrArg _
  refine ⟨fun hop hm => ?asl, fun hop hm => ?lsr, fun hop hm => ?rol, fun hop hm => ?ror, fun hop => ?inc, fun hop => ?dec,
    fun hop hm b => ?frame⟩
  case asl =>
    exact exec_rmw ((hshape hop).trans (shiftShape_memory _ hm)) (keepsNmi_shifted _) (fun c _ => Cpu.asl_eq _ c)
      fun _ _ _ => rfl
  case lsr =>
    exact exec_rmw ((hshape hop).trans (shiftShape_memory _ hm)) (keepsNmi_shifted _) (fun c _ => Cpu.lsr_eq_shifted _ c)
      fun _ _ _ => rfl
  case rol =>
    exact exec_rmw ((hshape hop).trans (shiftShape_memory _ hm)) (keepsNmi_shifted _)
      (fun c hc => hc ▸ Cpu.rol_eq _ c) fun _ _ _ => rfl
  case ror =>
    exact exec_rmw ((hshape hop).trans (shiftShape_memory _ hm)) (keepsNmi_shifted _)
      (fun c hc => hc ▸ Cpu.ror_eq _ c) fun _ _ _ => rfl
  case inc =>
    exact exec_rmw (u := id) (hshape hop) (fun _ _ => rfl) (fun c _ => congrArg (·, c) (byte_add_one m.1)) fun _ _ _ => rfl
  case dec =>
    exact exec_rmw (u := id) (hshape hop) (fun _ _ => rfl) (fun c _ => congrArg (·, c) (byte_sub_one m.1)) fun _ _ _ => rfl
  case frame => exact storeFrame_memRead (fun h => absurd (h ▸ hop) (by decide)) s r.1.ea b

/-- Settles O29: each is a shift or a count of memory, followed by its second operation on A with the byte written. -/
theorem combinedResults : Obligations.CombinedResults := by
  intro i s r m w t logic up down
  have hshape : ∀ {op : Mnemonic}, i.op = op → opShape i.mode i.op = opShape i.mode op := congrArg _
  refine ⟨fun hop => ?slo, fun hop => ?rla, fun hop => ?sre, fun hop => ?rra, fun hop => ?dcp, fun hop => ?isc,
    fun hop b => ?frame⟩
  case slo =>
    exact exec_rmw_logic (hshape hop) (fun c _ => Cpu.asl_eq _ c) fun _ _ => rfl
  case rla =>
    exact exec_rmw_logic (hshape hop) (fun c hc => hc ▸ Cpu.rol_eq _ c) fun _ _ => rfl
  case sre =>
    exact exec_rmw_logic (hshape hop) (fun c _ => Cpu.lsr_eq_shifted _ c) fun _ _ => rfl
  case rra =>
    exact exec_rmw (hshape hop) (keepsNmi_shifted _) (fun c hc => hc ▸ Cpu.ror_eq _ c) fun c _ _ => Cpu.adc_eq _ _
  case dcp =>
    exact exec_rmw (u := id) (hshape hop) (fun _ _ => rfl) (fun c _ => congrArg (·, c) (byte_sub_one m.1))
      fun c ha _ => congrArg (fun a => c.compareWith a down) ha
  case isc =>
    exact exec_rmw (u := id) (hshape hop) (fun _ _ => rfl) (fun c _ => congrArg (·, c) (byte_add_one m.1))
      fun c _ hc => hc ▸ Cpu.sbc_eq _ c
  case frame => exact storeFrame_memRead (fun h => absurd (h ▸ hop) (by decide)) s r.1.ea b

end Sys2Proof.Machine
end

section
/-! The stack and control-flow family: the status byte bit by bit, the whole next state of the stack instructions, jumps,
subroutines and returns, and a return after its call. -/
namespace Sys2Proof.Machine

open Sys2Proof.Safety

/-! ### The status byte -/

/-- R27: the flags stand in bits 7, 6, 3, 2, 1 and 0, bit 5 is set and bit 4 is the break bit. -/
theorem Cpu.packP_bits (b : Bool) (c : Cpu) :
    (c.packP b).getLsbD 7 = c.n ∧ (c.packP b).getLsbD 6 = c.v ∧ (c.packP b).getLsbD 5 = true ∧
      (c.packP b).getLsbD 4 = b ∧ (c.packP b).getLsbD 3 = c.d ∧ (c.packP b).getLsbD 2 = c.i ∧
      (c.packP b).getLsbD 1 = c.z ∧ (c.packP b).getLsbD 0 = c.c := by
  simp only [packP, BitVec.getLsbD_append, BitVec.getLsbD_ofBool]
  simp

/-- What is pulled after a push is every flag as it was. -/
theorem Cpu.unpackP_packP (b : Bool) (c d : Cpu) :
    d.unpackP (c.packP b) = { d with n := c.n, v := c.v, d := c.d, i := c.i, z := c.z, c := c.c } := by
  obtain ⟨h7, h6, -, -, h3, h2, h1, h0⟩ := packP_bits b c
  rw [unpackP, h7, h6, h3, h2, h1, h0]

/-- R27: bits 5 and 4 of a pulled byte are ignored. -/
theorem Cpu.unpackP_xor (p : Byte) (c : Cpu) : c.unpackP p = c.unpackP (p ^^^ 0x30#8) := by
  simp [unpackP]

/-- A byte pulled and pushed again keeps its six flags. -/
theorem Cpu.packP_unpackP (b : Bool) (p : Byte) (c : Cpu) :
    (c.unpackP p).packP b = (p &&& 0xCF#8) ||| 0x20#8 ||| (if b then 0x10#8 else 0#8) := by
  obtain ⟨h7, h6, h5, h4, h3, h2, h1, h0⟩ := packP_bits b (c.unpackP p)
  refine BitVec.eq_of_getLsbD_eq fun i hi => ?_
  interval_cases i <;> simp only [h7, h6, h5, h4, h3, h2, h1, h0, BitVec.getLsbD_or, BitVec.getLsbD_and] <;> cases b <;>
    simp

/-- Settles O20: `packP_bits`, and what follows from it for a byte pushed and pulled. -/
theorem statusByteLayout : Obligations.StatusByteLayout := by
  intro b p c
  obtain ⟨h7, h6, h5, h4, h3, h2, h1, h0⟩ := c.packP_bits b
  exact ⟨h7, h6, h5, h4, h3, h2, h1, h0, c.unpackP_packP b c, c.unpackP_xor p, c.packP_unpackP b p⟩

/-! ### The stack instructions -/

/-- Settles O19: each moves PC past its opcode and pushes or pulls one byte, which is `push_eq` or `pull_eq`. -/
theorem stackInstructionResults : Obligations.StackInstructionResults := by
  intro s sp pulled c pushed
  refine ⟨?pha, ?php, ?pla, ?plp⟩
  case pha =>
    rw [exec_pha, push_eq]
    rfl
  case php =>
    rw [exec_php, push_eq]
    rfl
  case pla =>
    rw [exec_pla, pull_eq]
    rfl
  case plp =>
    rw [exec_plp, pull_eq]
    rfl

/-! ### Jumps, subroutines and returns -/

/-- R24: a pushed word lies in the two cells at S and below it. -/
theorem pushWord_eq (w : Addr) (s : State) :
    pushWord w s = { s with
      ram := (s.ram.write (0x100 + s.cpu.s.toNat) (hi w)).write (0x100 + (s.cpu.s - 1#8).toNat) (lo w)
      cpu := { s.cpu with s := s.cpu.s - 2#8 } } := by
  have h2 : s.cpu.s - 1#8 - 1#8 = s.cpu.s - 2#8 := by bv_omega
  rw [pushWord, push_eq, push_eq]
  simp only [h2]

/-- R24: a pulled word lies in the two cells above S. -/
theorem pullWord_eq (s : State) :
    pullWord s = (word (s.ram.read (0x100 + (s.cpu.s + 2#8).toNat)) (s.ram.read (0x100 + (s.cpu.s + 1#8).toNat)),
      { s with cpu := { s.cpu with s := s.cpu.s + 2#8 } }) := by
  have h2 : s.cpu.s + 1#8 + 1#8 = s.cpu.s + 2#8 := by bv_omega
  rw [pullWord, pull_eq]
  simp only [pull_eq, h2]

section
variable (a : Addr) (s : State)

/-- R271: JMP absolute. -/
theorem exec_jmpAbs_eq : exec (.jmpAbs a) s = .next { s with cpu := { s.cpu with pc := a }, cpuReturn := 3 } := rfl

/-- R271: JMP indirect, after its pointer's reads. -/
theorem exec_jmpInd_eq : exec (.jmpInd a) s =
    .next { (resolve (.ind a) s).2 with
      cpu := { s.cpu with pc := (resolve (.ind a) s).1.ea }, cpuReturn := 5 } := by
  rw [← resolve_cpu (.ind a) s]
  rfl

/-- R272: JSR pushes the address of its own last byte. -/
theorem exec_jsrAbs_eq : exec (.jsrAbs a) s =
    .next { (pushWord (s.cpu.pc + 2#16) s) with
      cpu := { s.cpu with pc := a, s := s.cpu.s - 2#8 }, cpuReturn := 6 } := by
  rw [exec_jsrAbs, pushWord_eq, pushWord_eq]
  rfl

/-- R273: RTS adds one to the address it pulls. -/
theorem exec_rts_eq : exec .rts s =
    .next { s with cpu := { s.cpu with s := s.cpu.s + 2#8, pc := (pullWord s).1 + 1#16 }, cpuReturn := 6 } := by
  rw [exec_rts, pullWord_eq, pullWord_eq]
  rfl

/-- R274: RTI pulls the flags first, then the address. -/
theorem exec_rti_eq : exec .rti s =
    .next { s with
      cpu := { s.cpu.unpackP (pull s).1 with s := s.cpu.s + 3#8, pc := (pullWord (pull s).2).1 }, cpuReturn := 6 } := by
  have h3 : s.cpu.s + 1#8 + 2#8 = s.cpu.s + 3#8 := by bv_omega
  rw [← h3, exec_rti, returnFromException, pull_eq, pull_eq, pullWord_eq, pullWord_eq]
  rfl

end

/-- The registers and the returned count play no part in what a plain address reads. -/
theorem memRead_plain_registers {a : Addr} (h : PlainAddr a) (c : Cpu) (n : Nat) (s : State) :
    (memRead a { s with cpu := c, cpuReturn := n }).1 = (memRead a s).1 :=
  memRead_plain_congr h rfl rfl rfl

/-- Settles O25: a jump sets PC; JSR and the returns are a word, or the flags and a word, at the stack pointer. -/
theorem jumpAndReturnResults : Obligations.JumpAndReturnResults := by
  intro a s sp r b
  refine ⟨exec_jmpAbs_eq a s, exec_jmpInd_eq a s, ?jsr, ?frame, ?rts, ?rti⟩
  case jsr => rw [exec_jsrAbs_eq, pushWord_eq]
  case frame =>
    intro hwf t ht c hc hn
    obtain rfl := Host.Outcome.next.inj ((exec_jsrAbs_eq a s).symm.trans ht)
    exact (memRead_plain_registers hc _ 6 (pushWord (s.cpu.pc + 2#16) s)).trans (pushWord_memoryKept hwf _ c hc hn)
  case rts => rw [exec_rts_eq, pullWord_eq]
  case rti =>
    have h2 : s.cpu.s + 1#8 + 1#8 = s.cpu.s + 2#8 := by bv_omega
    have h3 : s.cpu.s + 1#8 + 2#8 = s.cpu.s + 3#8 := by bv_omega
    rw [exec_rti_eq, pullWord_eq, pull_eq]
    simp only [h2, h3]
    rfl

/-- R275: BRK is the entry of an exception with the break bit set, two bytes on. -/
theorem exec_brk_eq (s : State) : exec .brk s =
    .next { takeException (s.cpu.pc + 2#16) true irqVector s with cpuReturn := 7 } := by
  rw [exec_brk, irqVector, takeException_eq _ _ (.inr rfl), takeException_eq _ _ (.inr rfl)]
  rfl

/-- Settles O26: BRK is `takeException`, whose state and whose frame in memory are known. -/
theorem brkResult : Obligations.BrkResult := by
  intro s
  refine ⟨?state, ?frame⟩
  case state => rw [exec_brk_eq, irqVector, takeException_eq _ _ (.inr rfl)]
  case frame =>
    intro hwf t ht a ha hn
    obtain rfl := Host.Outcome.next.inj ((exec_brk_eq s).symm.trans ht)
    exact (memRead_plain_registers ha _ 7 (takeException (s.cpu.pc + 2#16) true irqVector s)).trans
      (takeException_memoryKept hwf _ _ _ a ha hn)

/-! ### A return after its call -/

/-- The cell of the stack page a stack pointer reaches, as the CPU reads it. -/
theorem ram_read_stack (sp : Byte) (s : State) : s.ram.read (0x100 + sp.toNat) = (memRead (stackAddr sp) s).1 := by
  rw [memRead_ram (stackAddr_le sp), ramIndex_stackAddr]

section
variable {t p : State} {sp : Byte} (hram : t.ram = p.ram)
include hram

/-- The word in the two cells up to `sp` is pulled from two below, whatever else has changed. -/
theorem pullWord_fst_of_ram {w : Addr} (hsp : t.cpu.s = sp - 2#8) (hhi : (memRead (stackAddr sp) p).1 = hi w)
    (hlo : (memRead (stackAddr (sp - 1#8)) p).1 = lo w) : (pullWord t).1 = w := by
  have h2 : sp - 2#8 + 2#8 = sp := BitVec.sub_add_cancel sp 2#8
  have h1 : sp - 2#8 + 1#8 = sp - 1#8 := by bv_omega
  rw [pullWord_eq, hsp, h1, h2, hram, ram_read_stack, ram_read_stack, hhi, hlo]
  exact Laws.EncodeShape.word_hi_lo w

/-- The byte in the cell at `sp` is pulled from one below, whatever else has changed. -/
theorem pull_fst_of_ram {v : Byte} (hsp : t.cpu.s = sp - 1#8) (hv : (memRead (stackAddr sp) p).1 = v) :
    (pull t).1 = v := by
  rw [pull_eq, hsp, hram, BitVec.sub_add_cancel, ram_read_stack, hv]

end

/-- R285: RTS after JSR. -/
theorem rts_after_jsr (a : Addr) {s : State} (hwf : s.ram.wf 0x800 = true) :
    ∃ t u, exec (.jsrAbs a) s = .next t ∧ exec .rts t = .next u ∧
      u.cpu = { s.cpu with pc := s.cpu.pc + 3#16 } ∧ DevicesKept s u := by
  obtain ⟨t, hjsr, hram, hcpu, hdevices⟩ : ∃ t, exec (.jsrAbs a) s = .next t ∧
      t.ram = (pushWord (s.cpu.pc + 2#16) s).ram ∧ t.cpu = { s.cpu with pc := a, s := s.cpu.s - 2#8 } ∧
      DevicesKept s t := by
    refine ⟨_, exec_jsrAbs_eq a s, rfl, rfl, ?_⟩
    rw [pushWord_eq]
    exact ⟨rfl, rfl, rfl, rfl, rfl, rfl⟩
  refine ⟨t, _, hjsr, exec_rts_eq t, ?cpu, hdevices⟩
  have hpc : s.cpu.pc + 2#16 + 1#16 = s.cpu.pc + 3#16 := by bv_omega
  rw [pullWord_fst_of_ram hram (by rw [hcpu]) (memRead_pushWord_hi hwf _) (memRead_pushWord_lo hwf _), hcpu]
  simp only [hpc, BitVec.sub_add_cancel]

/-- R713: RTI after BRK. -/
theorem rti_after_brk {s : State} (hwf : s.ram.wf 0x800 = true) :
    ∃ t u, exec .brk s = .next t ∧ exec .rti t = .next u ∧
      u.cpu = { s.cpu with pc := s.cpu.pc + 2#16 } ∧ DevicesKept s u := by
  have hhi := memRead_takeException_hi hwf (s.cpu.pc + 2#16) true irqVector
  have hlo := memRead_takeException_lo hwf (s.cpu.pc + 2#16) true irqVector
  have hstatus := memRead_takeException_status hwf (s.cpu.pc + 2#16) true irqVector
  obtain ⟨t, hbrk, hram, hs, hcpu, hdevices⟩ : ∃ t, exec .brk s = .next t ∧
      t.ram = (takeException (s.cpu.pc + 2#16) true irqVector s).ram ∧ t.cpu.s = s.cpu.s - 3#8 ∧
      (∀ sp pc, { t.cpu.unpackP (s.cpu.packP true) with s := sp, pc := pc } = { s.cpu with s := sp, pc := pc }) ∧
      DevicesKept s t := by
    refine ⟨_, exec_brk_eq s, rfl, ?_⟩
    rw [irqVector, takeException_eq _ _ (.inr rfl)]
    exact ⟨rfl, fun sp pc => by rw [Cpu.unpackP_packP]; rfl, rfl, rfl, rfl, rfl, rfl, rfl⟩
  have h2 : t.cpu.s = s.cpu.s - 2#8 - 1#8 := by rw [hs]; bv_omega
  have h1 : (pull t).2.cpu.s = s.cpu.s - 2#8 := by rw [pull_cpu_s, hs]; bv_omega
  refine ⟨t, _, hbrk, exec_rti_eq t, ?_, hdevices⟩
  rw [pull_fst_of_ram hram h2 hstatus, pullWord_fst_of_ram ((pull_ram t).trans hram) h1 hhi hlo, hcpu, hs,
    BitVec.sub_add_cancel]

/-- Settles O28: the bytes pushed are the bytes pulled, each in a cell of its own wherever S stands. -/
theorem callsReturn : Obligations.CallsReturn := by
  intro a s hwf
  exact ⟨rts_after_jsr a hwf, rti_after_brk hwf⟩

/-! ### JAM -/

/-- Settles O32: JAM is an implied instruction under either policy, and a jammed CPU idles. -/
theorem jamResults : Obligations.JamResults := by
  intro k s
  refine ⟨fun hpolicy => ?halt, fun hpolicy => ?nop, fun hj => ?jammed⟩
  case halt =>
    rw [exec_jam, jamOp, hpolicy]
    rfl
  case nop =>
    rw [exec_jam, jamOp, hpolicy]
    rfl
  case jammed => exact cpuStep_jammed hj

end Sys2Proof.Machine
end

section
/-! The step family: what every CPU step and every cycle of the devices keep, the invariant of a step, and `run_frame` as steps
up to its target. -/
namespace Sys2Proof.Machine

open Sys2Proof.Safety Sys2Proof.Config

/-! ### The CPU's part of a step -/

theorem enterInterrupt_completes (vec : Addr) (s : State) : Completes s (enterInterrupt vec s) :=
  ((CpuStep.refl s).takeException s.cpu.pc false vec).completes (by decide) (by decide)

theorem CpuStep.completes_after {s t : State} {o : Host.Outcome State Fault Refusal} (h : CpuStep s t) (h' : Completes t o) :
    Completes s o := by
  obtain ⟨u, ho, hstep, hlow, hhigh⟩ := h'
  exact ⟨u, ho, h.trans hstep, hlow, hhigh⟩

/-- R703: jammed, an entry or one instruction, a CPU step answers a next state. -/
theorem cpuStep_completes (s : State) : Completes s (cpuStep s) := by
  unfold cpuStep
  split
  · exact (CpuStep.refl s).completes (by decide) (by decide)
  split
  · exact ((CpuStep.refl s).mapCpu _).completes_after (enterInterrupt_completes _ _)
  split
  · exact enterInterrupt_completes _ s
  · exact (fetchInstr_cpuStep s).completes_after (exec_completes _ _)

theorem consoleStep_next {s u : State} (h : cpuStep (clearStalls s) = .next u) :
    consoleStep s = .next (advanceDevices s.console.pendingStall u) := by
  rw [consoleStep, h]

theorem step_loaded {s : State} (h : s.console.loaded = true) : step s = consoleStep s := if_pos h

theorem step_notLoaded {s : State} (h : s.console.loaded = false) : step s = .refused .noCartridge :=
  if_neg (ne_true_of_eq_false h)

/-! ### The devices' part of a step -/

/-- The sample clock takes in one rate and gives off one period when it can. -/
theorem sampleClock_acc (cfg : Params) (u : Apu) :
    (u.sampleClock cfg).sampleAcc =
      if cfg.cpuHz ≤ u.sampleAcc + cfg.sampleRate then u.sampleAcc + cfg.sampleRate - cfg.cpuHz
      else u.sampleAcc + cfg.sampleRate := by
  unfold Apu.sampleClock
  dsimp only
  split <;> rfl

/-- R533: with a rate up to the clock's, the accumulator stays below one period. -/
theorem sampleClock_acc_lt {cfg : Params} {u : Apu} (hrate : cfg.sampleRate ≤ cfg.cpuHz) (hacc : u.sampleAcc < cfg.cpuHz) :
    (u.sampleClock cfg).sampleAcc < cfg.cpuHz := by
  rw [sampleClock_acc]
  split <;> omega

@[simp] theorem quarterFrame_sampleAcc (u : Apu) : u.quarterFrame.sampleAcc = u.sampleAcc := rfl
@[simp] theorem halfFrame_sampleAcc (u : Apu) : u.halfFrame.sampleAcc = u.sampleAcc := rfl

@[simp] theorem sequencer_sampleAcc (u : Apu) : u.sequencer.sampleAcc = u.sampleAcc := by
  unfold Apu.sequencer Apu.sequence4 Apu.sequence5
  dsimp only
  repeat' split
  all_goals rfl

@[simp] theorem clockTimers_sampleAcc (u : Apu) : u.clockTimers.sampleAcc = u.sampleAcc := by
  unfold Apu.clockTimers
  dsimp only
  split <;> rfl

@[simp] theorem dmcReader_sampleAcc (s : State) : (dmcReader s).apu.sampleAcc = s.apu.sampleAcc := by
  unfold dmcReader
  split
  · obtain ⟨_, _, _, _, _, _, hread⟩ := memRead_readStep s.apu.dmc.curAddr s
    dsimp only
    rw [hread]
  · rfl

theorem apuStep_clockWf {s : State} (h : SampleClockWf s) : SampleClockWf (apuStep s) := by
  obtain ⟨hrate, hacc⟩ := h
  have hcfg : (dmcReader { s with apu := s.apu.clockTimers }).cfg = s.cfg := (dmcReader_keeps _).cfg
  unfold SampleClockWf apuStep
  dsimp only
  rw [hcfg]
  exact ⟨hrate, sampleClock_acc_lt hrate (by simpa using hacc)⟩

theorem apuRun_clockWf (n : Nat) {s : State} (h : SampleClockWf s) : SampleClockWf (apuRun n s) := by
  induction n generalizing s with
  | zero => exact h
  | succ n ih => exact ih (apuStep_clockWf h)

theorem ppuAdvance_wf (n : Nat) {s : State} (h : Wf s) : Wf (ppuAdvance n s) :=
  ⟨h.ram, h.mapper, ppuRun_wf h.ppu _ _ n, h.apu⟩

theorem countCycles_wf (n : Nat) {s : State} (h : Wf s) : Wf (countCycles n s) := ⟨h.ram, h.mapper, h.ppu, h.apu⟩

/-- R605: in counters that are in their ranges, the PPU is in step when its dots are three for each CPU cycle. -/
theorem inStep_iff {s : State} (h : PpuWf s.ppu) : InStep s ↔ s.ppu.dots = 3 * s.console.cycles := by
  have hdot := h.dot
  have hline := h.scanline
  simp only [InStep, Ppu.position, Ppu.dots, dotsPerFrame, dotsPerLine]
  omega

section
variable (s0 : Nat) (u : State)

/-- The devices advance by the step's cycles `n`: three dots and one APU cycle for each. -/
theorem advanceDevices_eq : advanceDevices s0 u =
    countCycles (stepCycles s0 u) (apuRun (stepCycles s0 u) (ppuAdvance (3 * stepCycles s0 u) u)) := rfl

theorem advanceDevices_keeps : ApuStepKeeps (ppuAdvance (3 * stepCycles s0 u) u)
    (apuRun (stepCycles s0 u) (ppuAdvance (3 * stepCycles s0 u) u)) := apuRun_keeps _ _

theorem advanceDevices_cycles :
    (advanceDevices s0 u).console.cycles = u.console.cycles + stepCycles s0 u := by
  rw [advanceDevices_eq, countCycles_console, (advanceDevices_keeps s0 u).cycles, ppuAdvance_console]

theorem advanceDevices_frameTarget3 : (advanceDevices s0 u).console.frameTarget3 = u.console.frameTarget3 := by
  rw [advanceDevices_eq, countCycles_console, (advanceDevices_keeps s0 u).frameTarget3, ppuAdvance_console]

theorem advanceDevices_loaded : (advanceDevices s0 u).console.loaded = u.console.loaded := by
  rw [advanceDevices_eq, countCycles_console, (advanceDevices_keeps s0 u).loaded, ppuAdvance_console]

theorem advanceDevices_consoleReturn : (advanceDevices s0 u).consoleReturn = stepCycles s0 u := rfl

theorem advanceDevices_cfg : (advanceDevices s0 u).cfg = u.cfg := (advanceDevices_keeps s0 u).cfg

theorem advanceDevices_mapper : (advanceDevices s0 u).mapper = u.mapper := (advanceDevices_keeps s0 u).mapper

theorem advanceDevices_wf {u : State} (h : Wf u) : Wf (advanceDevices s0 u) :=
  countCycles_wf _ ((advanceDevices_keeps s0 u).wf (ppuAdvance_wf _ h))

theorem advanceDevices_clockWf {u : State} (h : SampleClockWf u) : SampleClockWf (advanceDevices s0 u) :=
  apuRun_clockWf _ (s := ppuAdvance (3 * stepCycles s0 u) u) h

/-- The dots a step makes, in a state whose DMC reads cartridge space. -/
theorem advanceDevices_dots {u : State} (h : Wf u) :
    (advanceDevices s0 u).ppu.dots = u.ppu.dots + 3 * stepCycles s0 u := by
  rw [advanceDevices_eq, countCycles_ppu, (advanceDevices_keeps s0 u).ppu (ppuAdvance_wf _ h), ppuAdvance_ppu,
    ppuRun_dots]

end

/-! ### The invariant -/

theorem clearStalls_wf {s : State} (h : Wf s) : Wf (clearStalls s) := ⟨h.ram, h.mapper, h.ppu, h.apu⟩

/-- The devices' advance after a CPU step keeps the invariant. -/
theorem advanceDevices_inv {s u : State} (h : Inv s) (hu : CpuStep (clearStalls s) u) (s0 : Nat) :
    Inv (advanceDevices s0 u) := by
  have hwf : Wf u := hu.wf (clearStalls_wf h.wf)
  have hwf' := advanceDevices_wf s0 hwf
  refine ⟨hwf', ?cartridge, advanceDevices_clockWf s0 ?clock, (inStep_iff hwf'.ppu).mpr ?inStep, rfl⟩
  case cartridge =>
    intro hloaded hnone
    rw [advanceDevices_loaded, hu.loaded] at hloaded
    rw [advanceDevices_mapper] at hnone
    obtain ⟨m, hm⟩ := Option.ne_none_iff_exists'.mp (h.cartridge hloaded)
    obtain ⟨m⟩ := m
    obtain ⟨chr, hsome, -⟩ := (mapperFixed_cases hu.mapper).2 m hm
    exact absurd (hsome.symm.trans hnone) nofun
  case clock =>
    obtain ⟨hrate, hacc⟩ := h.clock
    rw [SampleClockWf, hu.cfg, hu.sampleAcc]
    exact ⟨hrate, hacc⟩
  case inStep =>
    have hdots : u.ppu.dots = s.ppu.dots := by
      simp only [Ppu.dots, hu.dot, hu.scanline, hu.frame, clearStalls_ppu]
    rw [advanceDevices_dots s0 hwf, advanceDevices_cycles, hdots, (inStep_iff h.wf.ppu).mp h.inStep, hu.cycles]
    show _ = 3 * (s.console.cycles + _)
    omega

theorem consoleStep_inv {s t : State} (h : Inv s) (hstep : consoleStep s = .next t) : Inv t := by
  obtain ⟨u, hcpu, hu, -, -⟩ := cpuStep_completes (clearStalls s)
  obtain rfl := Host.Outcome.next.inj ((consoleStep_next hcpu).symm.trans hstep)
  exact advanceDevices_inv h hu _

/-- Settles O58: a step is a CPU step, which keeps what `CpuStep` says, and the devices' advance, which keeps the invariant. -/
theorem stepKeepsInvariant : Obligations.StepKeepsInvariant := by
  intro s t h hstep
  cases hloaded : s.console.loaded with
  | false => exact absurd ((step_notLoaded hloaded).symm.trans hstep) nofun
  | true => exact consoleStep_inv h ((step_loaded hloaded).symm.trans hstep)

end Sys2Proof.Machine
end

section
/-! The Console's step and `run_frame`: what one step with a cartridge does, and the loop up to its target. -/
namespace Sys2Proof.Machine

open Sys2Proof.Safety Sys2Proof.Config

/-! ### The pad through a step -/

@[simp] theorem dmcReader_pad (s : State) : (dmcReader s).console.pad = s.console.pad := by
  unfold dmcReader
  split
  · obtain ⟨_, _, _, _, _, _, hread⟩ := memRead_readStep s.apu.dmc.curAddr s
    dsimp only
    rw [hread]
  · rfl

theorem apuRun_pad (n : Nat) (s : State) : (apuRun n s).console.pad = s.console.pad := by
  induction n generalizing s with
  | zero => rfl
  | succ n ih => exact (ih _).trans (dmcReader_pad { s with apu := s.apu.clockTimers })

theorem advanceDevices_pad (s0 : Nat) (u : State) : (advanceDevices s0 u).console.pad = u.console.pad := by
  rw [advanceDevices_eq, countCycles_console, apuRun_pad, ppuAdvance_console]

/-! ### One step as the loop of `run_frame` sees it -/

/-- What a step with a cartridge does to the counts `run_frame` looks at. -/
structure Advanced (s t : State) : Prop where
  cycles : t.console.cycles = s.console.cycles + t.consoleReturn
  least : 2 ≤ t.consoleReturn
  target : t.console.frameTarget3 = s.console.frameTarget3
  pad : t.console.pad = s.console.pad
  inv : Inv s → Inv t

theorem advanced_of_cpuStep {s u : State} (hu : CpuStep (clearStalls s) u) (hlow : 2 ≤ u.cpuReturn) (s0 : Nat) :
    Advanced s (advanceDevices s0 u) where
  cycles := by
    rw [advanceDevices_cycles, hu.cycles, advanceDevices_consoleReturn]
    rfl
  least := by
    rw [advanceDevices_consoleReturn, stepCycles]
    omega
  target := (advanceDevices_frameTarget3 s0 u).trans hu.frameTarget3
  pad := (advanceDevices_pad s0 u).trans hu.pad
  inv h := advanceDevices_inv h hu s0

theorem consoleStep_advances (s : State) : ∃ t, consoleStep s = .next t ∧ Advanced s t := by
  obtain ⟨u, hcpu, hu, hlow, -⟩ := cpuStep_completes (clearStalls s)
  exact ⟨_, consoleStep_next hcpu, advanced_of_cpuStep hu hlow _⟩

/-! ### The loop -/

theorem runUntil_reached {s : State} (h : s.console.frameTarget3 ≤ 3 * s.console.cycles) (fuel : Nat) :
    runUntil fuel s = .next s := by
  cases fuel with
  | zero => rfl
  | succ fuel => rw [runUntil, if_neg (Nat.not_lt.mpr h)]

/-- What the loop ends in: the target reached, and by less than the last step's dots when there was a step. -/
structure Ran (s t : State) : Prop where
  inv : Inv s → Inv t
  target : t.console.frameTarget3 = s.console.frameTarget3
  pad : t.console.pad = s.console.pad
  reached : t.console.frameTarget3 ≤ 3 * t.console.cycles
  overshoot : 3 * s.console.cycles < t.console.frameTarget3 →
    3 * t.console.cycles < t.console.frameTarget3 + 3 * t.consoleReturn

theorem Ran.refl {s : State} (h : s.console.frameTarget3 ≤ 3 * s.console.cycles) : Ran s s :=
  ⟨id, rfl, rfl, h, fun hlt => absurd hlt (Nat.not_lt.mpr h)⟩

/-- The step that reaches the target is the last; after any other the loop's own overshoot counts. -/
theorem Advanced.ran {s t u : State} (h : Advanced s t) (h' : Ran t u)
    (hlast : t.console.frameTarget3 ≤ 3 * t.console.cycles → u = t) : Ran s u where
  inv := h'.inv ∘ h.inv
  target := h'.target.trans h.target
  pad := h'.pad.trans h.pad
  reached := h'.reached
  overshoot _ := by
    have hcycles := h.cycles
    have htarget := h.target
    by_cases hreached : t.console.frameTarget3 ≤ 3 * t.console.cycles
    · obtain rfl := hlast hreached
      omega
    · exact h'.overshoot (by rw [h'.target]; omega)

/-- The distance to the target is fuel enough: a step makes at least six dots. -/
theorem runUntil_ran (fuel : Nat) {s : State} (hfuel : s.console.frameTarget3 ≤ 3 * s.console.cycles + fuel) :
    ∃ t, runUntil fuel s = .next t ∧ Ran s t := by
  induction fuel generalizing s with
  | zero => exact ⟨s, rfl, Ran.refl hfuel⟩
  | succ fuel ih =>
    by_cases hlt : 3 * s.console.cycles < s.console.frameTarget3
    · obtain ⟨t, hstep, ht⟩ := consoleStep_advances s
      have hcycles := ht.cycles
      have hleast := ht.least
      obtain ⟨u, hrun, hu⟩ := ih (s := t) (by rw [ht.target]; omega)
      refine ⟨u, by rw [runUntil, if_pos hlt, hstep]; exact hrun, ht.ran hu fun hreached => ?_⟩
      exact Host.Outcome.next.inj (hrun.symm.trans (runUntil_reached hreached fuel))
    · exact ⟨s, runUntil_reached (Nat.not_lt.mp hlt) _, Ran.refl (Nat.not_lt.mp hlt)⟩

theorem frameStart_inv {s : State} (input : Input) (h : Inv s) : Inv (frameStart input s) :=
  ⟨⟨h.wf.ram, h.wf.mapper, h.wf.ppu, ⟨h.wf.apu.dmc, h.wf.apu.lfsr, h.wf.apu.sequencer⟩⟩, h.cartridge, h.clock,
    h.inStep, h.noDma⟩

theorem runFrame_loaded {s : State} (input : Input) (h : s.console.loaded = true) :
    runFrame input s = runUntil ((frameStart input s).console.frameTarget3 - 3 * s.console.cycles) (frameStart input s) :=
  if_pos h

/-- Settles O54: an induction over the loop's fuel; each step advances the count by the cycles it returns. -/
theorem runFrameReachesItsTarget : Obligations.RunFrameReachesItsTarget := by
  intro input s hinv hloaded
  have hfuel : (frameStart input s).console.frameTarget3 ≤ 3 * (frameStart input s).console.cycles +
      ((frameStart input s).console.frameTarget3 - 3 * s.console.cycles) := by
    rw [show (frameStart input s).console.cycles = s.console.cycles from rfl]
    omega
  obtain ⟨t, hrun, ht⟩ := runUntil_ran _ hfuel
  exact ⟨t, (runFrame_loaded input hloaded).trans hrun, ht.inv (frameStart_inv input hinv), ht.target, ht.reached,
    ht.overshoot, ht.pad⟩

/-! ### The step itself -/

/-- Settles O51: the step is its CPU step from cleared stalls, then `advanceDevices`, whose parts `apuRun_keeps` tells apart. -/
theorem consoleStep_holds : Obligations.ConsoleStep := by
  intro s hloaded
  obtain ⟨u, hcpu, hu, hlow, -⟩ := cpuStep_completes (clearStalls s)
  refine ⟨u, hcpu, ?_⟩
  intro e n p
  have hn : stepCycles s.console.pendingStall u = n := by
    have hcycles : u.console.cycles = s.console.cycles := hu.cycles
    simp only [stepCycles, dmaCycles, hcycles]
    rfl
  have hkeeps := advanceDevices_keeps s.console.pendingStall u
  have hadvanced := advanced_of_cpuStep hu hlow s.console.pendingStall
  have hreturn := hn ▸ advanceDevices_consoleReturn s.console.pendingStall u
  have hwf : Wf s → Wf u := fun h => hu.wf (clearStalls_wf h)
  rw [hn] at hkeeps
  refine ⟨_, (step_loaded hloaded).trans (consoleStep_next hcpu), hreturn, hreturn ▸ hadvanced.least,
    hreturn ▸ hadvanced.cycles, rfl, ?_⟩
  rw [advanceDevices_eq, hn]
  obtain ⟨hdot, hline, hframe⟩ := hkeeps.dots
  exact ⟨hkeeps.cpu, hkeeps.ram, hkeeps.cfg, hkeeps.mapper, rfl, hdot, hline, hframe,
    fun h => hkeeps.ppu (ppuAdvance_wf _ (hwf h))⟩

/-- R131: at bytes of memory the fetch has no side effect, and is the decoder on the three bytes from PC on. -/
theorem fetchInstr_plain {s : State} (h0 : PlainAddr s.cpu.pc) (h1 : PlainAddr (s.cpu.pc + 1#16))
    (h2 : PlainAddr (s.cpu.pc + 2#16)) : fetchInstr s =
      (decodeOp (memRead s.cpu.pc s).1 (memRead (s.cpu.pc + 1#16) s).1 (memRead (s.cpu.pc + 2#16) s).1, s) := by
  unfold fetchInstr
  dsimp only
  rw [memRead_plain h0, memRead_plain h1, memRead_plain h2]
  rcases opLength_cases (memRead s.cpu.pc s).1 with h | h | h <;> simp only [h]
  · exact congrArg (·, s) (decodeOp_congr (by rw [h]; rfl))
  · exact congrArg (·, s) (decodeOp_congr (by rw [h]; rfl))

/-- What three bytes decode to. -/
theorem decodeOp_of_decode {op b1 b2 : Byte} {i : Instr} {rest : List Byte} (h : decode [op, b1, b2] = .ok (i, rest)) :
    decodeOp op b1 b2 = i := by
  have hsplit := decode_take op b1 b2 ([b1, b2].drop (opLength op - 1))
  rw [List.take_append_drop, h] at hsplit
  exact (Prod.mk.inj (Except.ok.inj hsplit)).1.symm

/-- Settles O4: with no event due the CPU step is one instruction, and the fetch at bytes of memory is `fetchInstr_plain`. -/
theorem stepRunsTheDecodedInstruction : Obligations.StepRunsTheDecodedInstruction := by
  intro s hloaded hjammed hnmi hirq
  have hstep : ∀ t, exec (fetchInstr (clearStalls s)).1 (fetchInstr (clearStalls s)).2 = .next t →
      step s = .next (advanceDevices s.console.pendingStall t) := fun t hexec =>
    (step_loaded hloaded).trans
      (consoleStep_next ((cpuStep_instruction (s := clearStalls s) hjammed hnmi hirq).trans hexec))
  refine ⟨hstep, fun h0 h1 h2 i rest t hdecode hexec => hstep t ?_⟩
  have hread : ∀ {a : Addr}, PlainAddr a → (memRead a (clearStalls s)).1 = (memRead a s).1 :=
    fun h => memRead_plain_congr h rfl rfl rfl
  have hpc : (clearStalls s).cpu.pc = s.cpu.pc := rfl
  rw [fetchInstr_plain (s := clearStalls s) h0 h1 h2, hpc, hread h0, hread h1, hread h2, decodeOp_of_decode hdecode]
  exact hexec

/-- Settles O60: each operation is guarded by `loaded`; with it, `consoleStep_advances`. -/
theorem stepNeedsACartridge : Obligations.StepNeedsACartridge := by
  intro input b s
  refine ⟨fun h => ?refused, fun h => ?answered⟩
  case refused =>
    have hn := ne_true_of_eq_false h
    exact ⟨if_neg hn, if_neg hn, if_neg hn, if_neg hn, if_neg hn⟩
  case answered =>
    obtain ⟨t, hstep, -⟩ := consoleStep_advances s
    exact ⟨⟨t, (step_loaded h).trans hstep⟩, if_pos h⟩

/-! ### Reset and construction -/

/-- R616: a Console reset, the vector read being in cartridge space. -/
theorem consoleReset_eq (s : State) : consoleReset s = { s with
    cpu := { Cpu.init with pc := vectorWord resetVector s }
    ppu := s.ppu.reset
    apu := Apu.init
    console := { Console.init with loaded := s.console.loaded } } := by
  rw [consoleReset, readVector_eq (by decide) (by decide)]
  rfl

/-- Settles O55: `consoleReset_eq`, field by field. -/
theorem consoleResetResult : Obligations.ConsoleResetResult := by
  intro s t
  rw [show t = _ from consoleReset_eq s]
  exact ⟨rfl, rfl, rfl, rfl, rfl, rfl, rfl⟩

theorem reset_wf : Wf State.reset where
  ram := rfl
  mapper := trivial
  ppu := ⟨rfl, rfl, rfl, rfl, rfl, by decide, by decide, by decide⟩
  apu := ⟨⟨by decide, by decide, by decide, by decide⟩, by decide, by decide⟩

/-- Settles O59: at construction every memory is empty and every counter at its first value. -/
theorem resetState : Obligations.ResetState :=
  ⟨⟨reset_wf, nofun, ⟨by decide, by decide⟩, ⟨rfl, rfl⟩, rfl⟩,
    rfl, rfl, rfl, rfl, rfl, rfl, rfl, rfl, rfl, rfl, rfl, rfl, rfl⟩

end Sys2Proof.Machine
end

section
/-! The Console's devices and host operations: the pad, the OAM DMA, the DMC reader, cartridge images and save states. -/
namespace Sys2Proof.Machine

open Sys2Proof.Safety Sys2Proof.Config

/-! ### The pad -/

theorem memWrite_pad (v : Byte) (s : State) : memWrite 0x4016#16 v s = { s with console := s.console.padStrobe v } := rfl

theorem memRead_padRegister (s : State) :
    memRead 0x4016#16 s = (s.console.padRead.1, { s with console := s.console.padRead.2 }) := rfl

/-- Bit `k` of the pad is the bit the map puts there. -/
theorem padEncode_standard_getLsbD (input : Input) {k : Nat} (h : k < 8) :
    (padEncode PadMap.standard input).getLsbD k = [input.face0, input.face1, input.select, input.start, input.up,
      input.down, input.left, input.right].getD k false := by
  simp only [padEncode, BitVec.getLsbD_or, flagByte_shiftLeft_getLsbD _ _ h, flagByte_getLsbD]
  interval_cases k <;> simp [PadMap.standard, Input.held]

theorem setButtonState_pad (input : Input) (k : Nat) :
    (padEncode PadMap.standard input).getLsbD k = [input.face0, input.face1, input.select, input.start, input.up,
      input.down, input.left, input.right].getD k false := by
  by_cases h : k < 8
  · exact padEncode_standard_getLsbD input h
  · rw [BitVec.getLsbD_of_ge _ _ (Nat.not_lt.mp h), List.getD_eq_default _ _ (Nat.not_lt.mp h)]

/-- The lowest bit of a byte, as a byte. -/
theorem byte_and_one (b : Byte) : b &&& 0x01#8 = if b.getLsbD 0 then 1#8 else 0#8 := by
  revert b
  decide

/-- The state after the strobe was written 1, then 0: the pad is latched. -/
theorem memWrite_pad_latched (s : State) : memWrite 0x4016#16 0#8 (memWrite 0x4016#16 1#8 s) =
    { s with console := { s.console with strobe := false, padShift := s.console.pad } } := rfl

/-- R628: with the strobe down a read shifts a one in from above. -/
theorem padShift_getLsbD (b : Byte) {j : Nat} (h : j < 8) :
    ((b >>> 1) ||| 0x80#8).getLsbD j = if j = 7 then true else b.getLsbD (j + 1) := by
  rw [BitVec.getLsbD_or, BitVec.getLsbD_ushiftRight, Nat.add_comm]
  interval_cases j <;> simp

/-- The pad's bits after `k` reads: `k` places down, ones above. -/
theorem padReads_shift (k : Nat) {u : State} (h : u.console.strobe = false) : ∃ shift : Byte,
    Nat.repeat (fun u => (memRead 0x4016#16 u).2) k u = { u with console := { u.console with padShift := shift } } ∧
      ∀ j < 8, shift.getLsbD j = if j + k < 8 then u.console.padShift.getLsbD (j + k) else true := by
  induction k with
  | zero => exact ⟨_, rfl, fun j hj => (if_pos hj).symm⟩
  | succ k ih =>
    obtain ⟨shift, hreads, hbits⟩ := ih
    refine ⟨(shift >>> 1) ||| 0x80#8, ?_, fun j hj => ?_⟩
    · rw [Nat.repeat, hreads, memRead_padRegister, Console.padRead_snd]
      simp [h]
    · rw [padShift_getLsbD shift hj]
      by_cases h7 : j = 7
      · rw [if_pos h7, if_neg (by omega)]
      · rw [if_neg h7, hbits (j + 1) (by omega), Nat.add_right_comm, Nat.add_assoc]

/-- Settles O53: `k` reads move the latched pad `k` places down (`padReads_shift`), and a read gives its lowest bit. -/
theorem padReadsInOrder : Obligations.PadReadsInOrder := by
  intro s input v k order latched t
  refine ⟨⟨_, rfl, fun hmap => ?buttons⟩, ?bits, fun hv => ?held⟩
  case buttons =>
    rw [hmap]
    exact setButtonState_pad input k
  case bits =>
    obtain ⟨shift, hreads, hbits⟩ := padReads_shift k (u := latched) rfl
    have hread : (memRead 0x4016#16 t).1 = shift &&& 0x01#8 := by
      rw [show t = _ from hreads, memRead_padRegister]
      rfl
    rw [hread, byte_and_one, hbits 0 (by decide), Nat.zero_add]
    by_cases h : k < 8
    · rw [if_pos h, if_pos h]
      rfl
    · rw [if_neg h, if_neg h]
      rfl
  case held =>
    intro held
    have hheld : held = { s with console := { s.console with strobe := true, padShift := s.console.pad } } := by
      rw [show held = _ from memWrite_pad v s, Console.padStrobe, hv]
      rfl
    rw [hheld, memRead_padRegister, ← byte_and_one]
    rfl

/-! ### The OAM DMA -/

/-- One byte of the copy, as R620 has it: a read, then a write of OAMDATA. -/
theorem oamDmaFrom_keeps (page : Byte) (n i : Nat) (s : State) :
    (oamDmaFrom page n i s).cpu = s.cpu ∧ (oamDmaFrom page n i s).ram = s.ram ∧
      (oamDmaFrom page n i s).ppu.oamAddr = s.ppu.oamAddr + BitVec.ofNat 8 n := by
  induction n generalizing i s with
  | zero => exact ⟨rfl, rfl, (BitVec.add_zero _).symm⟩
  | succ n ih =>
    obtain ⟨_, _, _, _, _, _, hread⟩ := memRead_readStep (word page (BitVec.ofNat 8 i)) s
    obtain ⟨hcpu, hram, haddr⟩ := ih (i + 1) { (memRead (word page (BitVec.ofNat 8 i)) s).2 with
      ppu := (memRead (word page (BitVec.ofNat 8 i)) s).2.ppu.oamDataWrite (memRead (word page (BitVec.ofNat 8 i)) s).1 }
    refine ⟨hcpu.trans (by rw [hread]), hram.trans (by rw [hread]), haddr.trans ?_⟩
    rw [hread, BitVec.ofNat_add, BitVec.add_comm (BitVec.ofNat 8 n), ← BitVec.add_assoc]
    rfl

/-- `n` bytes written to OAMDATA in a row, the `k`th of them `byte k`. -/
def Ppu.oamFilled (byte : Nat → Byte) : Nat → Nat → Ppu → Ppu
  | 0, _, p => p
  | n + 1, i, p => Ppu.oamFilled byte n (i + 1) (p.oamDataWrite (byte i))

/-- The pages without device registers: reading one has no side effect, and OAM is no part of what is read. -/
theorem oamDmaFrom_plain {page : Byte} (hpage : ∀ k : Byte, PlainAddr (word page k)) (n i : Nat) (s : State) :
    oamDmaFrom page n i s =
      { s with ppu := s.ppu.oamFilled (fun k => (memRead (word page (BitVec.ofNat 8 k)) s).1) n i } := by
  induction n generalizing i s with
  | zero => rfl
  | succ n ih =>
    have hbyte : ∀ k, (memRead (word page (BitVec.ofNat 8 k)) { s with
        ppu := s.ppu.oamDataWrite (memRead (word page (BitVec.ofNat 8 i)) s).1 }).1 =
        (memRead (word page (BitVec.ofNat 8 k)) s).1 :=
      fun k => memRead_plain_congr (s := s) (hpage _) rfl rfl rfl
    rw [oamDmaFrom, memRead_plain (hpage _), ih]
    simp only [hbyte]
    rfl

/-- OAM after `n` bytes from the current address on, wrapping: those bytes, and the others as they were. -/
theorem oamFilled_oam (byte : Nat → Byte) (n i : Nat) (hn : n ≤ 256) {p : Ppu} (hwf : p.oam.wf 256 = true) :
    p.oamFilled byte n i = { p with
      oam := (p.oamFilled byte n i).oam, oamAddr := p.oamAddr + BitVec.ofNat 8 n } ∧
    (∀ j < n, (p.oamFilled byte n i).oam.read ((p.oamAddr.toNat + j) % 256) = byte (i + j)) ∧
    ∀ c, (∀ j < n, c ≠ (p.oamAddr.toNat + j) % 256) → (p.oamFilled byte n i).oam.read c = p.oam.read c := by
  induction n generalizing i p with
  | zero => exact ⟨by simp [Ppu.oamFilled], nofun, fun _ _ => rfl⟩
  | succ n ih =>
    obtain ⟨hrest, hwritten, hkept⟩ := ih (i + 1) (by omega) (p := p.oamDataWrite (byte i))
      (Memory.wf_write hwf p.oamAddr.isLt _)
    have haddr : (p.oamDataWrite (byte i)).oamAddr.toNat = (p.oamAddr.toNat + 1) % 256 := BitVec.toNat_add _ _
    have hlt := p.oamAddr.isLt
    rw [haddr] at hwritten hkept
    have hshift : ∀ j, ((p.oamAddr.toNat + 1) % 256 + j) % 256 = (p.oamAddr.toNat + (j + 1)) % 256 := fun j => by omega
    simp only [hshift] at hwritten hkept
    refine ⟨?_, fun j hj => ?_, fun c hc => ?_⟩
    · rw [BitVec.ofNat_add, BitVec.add_comm (BitVec.ofNat 8 n), ← BitVec.add_assoc]
      exact hrest
    · cases j with
      | zero =>
        refine (hkept _ fun j hj => by omega).trans ?_
        rw [Nat.add_zero, Nat.mod_eq_of_lt hlt]
        exact Memory.read_write_same hwf _ _
      | succ j =>
        refine (hwritten j (by omega)).trans ?_
        rw [Nat.add_right_comm, Nat.add_assoc]
    · refine (hkept c fun j hj => hc (j + 1) (by omega)).trans (Memory.read_write_other hwf ?_ _)
      have := hc 0 (by omega)
      rwa [Nat.add_zero, Nat.mod_eq_of_lt hlt] at this

theorem page_plain {page : Byte} (h : page.toNat < 0x20 ∨ 0x41 ≤ page.toNat) (k : Byte) : PlainAddr (word page k) := by
  have hk := k.isLt
  rw [PlainAddr, word_toNat]
  omega

theorem memWrite_oamDma (page : Byte) (s : State) : memWrite 0x4014#16 page s = { oamDmaFrom page 256 0 s with
    console := { (oamDmaFrom page 256 0 s).console with dmaStall := 513 } } := by
  rw [memWrite, if_neg (by decide), if_neg (by decide), if_pos (by decide)]
  rfl

/-- Settles O52: 256 bytes bring the address round; in a page of memory the copy is `Ppu.oamFilled`. -/
theorem oamDmaCopies : Obligations.OamDmaCopies := by
  intro page s t
  obtain ⟨hcpu, hram, haddr⟩ := oamDmaFrom_keeps page 256 0 s
  rw [show t = _ from memWrite_oamDma page s]
  refine ⟨haddr.trans (BitVec.add_zero _), rfl, hcpu, hram, fun hwf hpage => ?_⟩
  have hcopy := oamDmaFrom_plain (page_plain hpage) 256 0 s
  obtain ⟨hframe, hbytes, -⟩ := oamFilled_oam (fun k => (memRead (word page (BitVec.ofNat 8 k)) s).1) 256 0
    (Nat.le_refl _) hwf
  rw [hcopy]
  refine ⟨fun k hk => (hbytes k hk).trans (by rw [Nat.zero_add]), ?_⟩
  rw [hframe, show BitVec.ofNat 8 256 = 0#8 from rfl, BitVec.add_zero]

/-! ### The DMC reader -/

/-- R530: a sample in cartridge space is read without a side effect. -/
theorem dmcReader_eq {s : State} (hwants : s.apu.dmc.wantsByte = true) (haddr : 0x8000 ≤ s.apu.dmc.curAddr.toNat) :
    dmcReader s = { s with
      apu := { s.apu with dmc := s.apu.dmc.receive (memRead s.apu.dmc.curAddr s).1 }
      console := { s.console with pendingStall := s.console.pendingStall + s.cfg.dmcStallCycles } } := by
  rw [dmcReader, if_pos hwants]
  dsimp only
  rw [memRead_plain (.inr (by omega))]

section
variable (b : Byte) (d : Dmc)

theorem dmc_receive_buffer : (d.receive b).buffer = b ∧ (d.receive b).bufferFull = true := by
  unfold Dmc.receive
  dsimp only
  repeat' split
  all_goals exact ⟨rfl, rfl⟩

/-- The address after the byte at `curAddr`: the last one wraps to 0x8000. -/
theorem dmc_nextAddr_toNat : (if d.curAddr = 0xFFFF#16 then 0x8000#16 else d.curAddr + 1#16).toNat =
    if d.curAddr.toNat = 0xFFFF then 0x8000 else d.curAddr.toNat + 1 := by
  split <;> split <;> bv_omega

theorem dmc_receive_more (h : d.bytesRemaining - 1#12 ≠ 0#12) : d.receive b = { d with
    buffer := b, bufferFull := true, bytesRemaining := d.bytesRemaining - 1#12
    curAddr := if d.curAddr = 0xFFFF#16 then 0x8000#16 else d.curAddr + 1#16 } := if_neg h

theorem dmc_receive_last (h : d.bytesRemaining = 1#12) : d.receive b =
    if d.loop then { d with buffer := b, bufferFull := true, curAddr := d.sampleAddr, bytesRemaining := d.sampleLen }
    else { d with
      buffer := b, bufferFull := true, bytesRemaining := 0#12, irqFlag := d.irqFlag || d.irqEn
      curAddr := if d.curAddr = 0xFFFF#16 then 0x8000#16 else d.curAddr + 1#16 } := by
  unfold Dmc.receive
  cases d.loop <;> cases d.irqEn <;> simp [h]

end

/-- Settles O50: the reader takes one byte without a side effect, and `Dmc.receive` tells the sample's end from the rest. -/
theorem dmcReader_holds : Obligations.DmcReader := by
  intro s hempty hmore haddr d e next
  have hwants : s.apu.dmc.wantsByte = true := by simp [Dmc.wantsByte, hempty, hmore]
  have hread := dmcReader_eq hwants haddr
  have he : e = d.receive (memRead d.curAddr s).1 := congrArg (fun u => u.apu.dmc) hread
  obtain ⟨hbuffer, hfull⟩ := dmc_receive_buffer (memRead d.curAddr s).1 d
  have hnext := dmc_nextAddr_toNat d
  rw [he]
  refine ⟨hbuffer, hfull, hread, fun h1 => ?more, fun h1 hloop => ?restart, fun h1 hloop => ?last⟩
  case more =>
    rw [dmc_receive_more _ _ (by bv_omega)]
    exact ⟨hnext, by show (d.bytesRemaining - 1#12).toNat + 1 = _; bv_omega, rfl⟩
  case restart =>
    rw [dmc_receive_last _ _ h1, if_pos hloop]
    exact ⟨rfl, rfl, rfl⟩
  case last =>
    rw [dmc_receive_last _ _ h1, if_neg (ne_true_of_eq_false hloop)]
    exact ⟨hnext, rfl, rfl⟩

end Sys2Proof.Machine
end

section
/-! Cartridge images and save states. -/
namespace Sys2Proof.Machine

open Sys2Proof.Safety Sys2Proof.Config

/-! ### Save states -/

theorem saveState_loaded {s : State} (h : s.console.loaded = true) :
    saveState s = .ok (.snapshot stateVersion (snapshotOf s)) := if_pos h

theorem loadState_version {s : State} (h : s.console.loaded = true) (body : Snapshot) :
    loadState (.snapshot stateVersion body) s = .ok (none, restoreSnapshot body s) := by
  rw [loadState, if_pos h]
  exact if_pos rfl

theorem loadState_otherVersion {s : State} (h : s.console.loaded = true) {version : Nat} (hv : version ≠ stateVersion)
    (body : Snapshot) : loadState (.snapshot version body) s = .ok (some .stateVersionMismatch, s) := by
  rw [loadState, if_pos h]
  exact if_neg hv

theorem loadState_error {b : Blob} {s t : State} {e : HostError} (h : loadState b s = .ok (some e, t)) :
    e = .stateVersionMismatch ∧ t = s := by
  unfold loadState at h
  split at h
  · split at h
    · cases h
      exact ⟨rfl, rfl⟩
    · split at h <;> cases h
      exact ⟨rfl, rfl⟩
  · cases h

theorem SameCartridge.refl (m : Option Mapper) : SameCartridge m m := by
  match m with
  | none => trivial
  | some (.fixed _) => exact ⟨rfl, rfl, rfl, rfl, fun _ => rfl⟩

/-- A cartridge and the CHR RAM of a snapshot make up the saved Mapper. -/
theorem restoreChrRam_chrRamOf {m m' : Option Mapper} (h : SameCartridge m m') : restoreChrRam (chrRamOf m) m' = m := by
  match m, m', h with
  | none, none, _ => rfl
  | some (.fixed ⟨banks, prg, chrBanks, chr, mirroring⟩), some (.fixed ⟨_, _, _, chr', _⟩), h =>
    obtain ⟨rfl, rfl, rfl, rfl, hchr⟩ := h
    by_cases hram : chrBanks = 0
    · simp [chrRamOf, restoreChrRam, hram]
    · obtain rfl : chr = chr' := hchr hram
      simp [chrRamOf, restoreChrRam, hram]

theorem restoreSnapshot_snapshotOf {s t : State} (h : SameCartridge s.mapper t.mapper) (hcfg : t.cfg = s.cfg) :
    restoreSnapshot (snapshotOf s) t = s := by
  rw [restoreSnapshot, snapshotOf, restoreChrRam_chrRamOf h, hcfg]

/-- Settles O57: restoring undoes saving on the same cartridge, so two states with one snapshot are both what it restores. -/
theorem saveAndLoadState : Obligations.SaveAndLoadState := by
  refine ⟨fun s t hs ht hcart hcfg => ?_, fun _ _ _ _ => loadState_error, fun _ body _ h hv =>
    loadState_otherVersion h hv body⟩
  have hrestore := restoreSnapshot_snapshotOf hcart hcfg
  refine ⟨_, saveState_loaded hs, by rw [loadState_version ht, hrestore], fun hsame => ?_⟩
  have hsnap : snapshotOf t = snapshotOf s :=
    (Blob.snapshot.inj (Except.ok.inj ((saveState_loaded ht).symm.trans hsame))).2
  calc t = restoreSnapshot (snapshotOf t) t := (restoreSnapshot_snapshotOf (SameCartridge.refl _) rfl).symm
    _ = s := by rw [hsnap, hrestore]

/-! ### Cartridge images -/

/-- The header's reasons to reject an image (R96), in plain arithmetic. -/
def ImageBad (bytes : List Byte) : Prop :=
  bytes.length < 16 ∨
    ¬(imageByte bytes 0 = 0x4E#8 ∧ imageByte bytes 1 = 0x45#8 ∧ imageByte bytes 2 = 0x53#8 ∧ imageByte bytes 3 = 0x1A#8) ∨
    bytes.length < 16 + imageTrainer bytes + 16384 * imagePrgBanks bytes + 8192 * imageChrBanks bytes ∨
    imageByte bytes 4 = 0#8 ∨ (imageByte bytes 6).toNat / 16 + (imageByte bytes 7).toNat / 16 * 16 ≠ 0

theorem take_four_eq_magic {bytes : List Byte} (h : 16 ≤ bytes.length) : bytes.take 4 = imageMagic ↔
    imageByte bytes 0 = 0x4E#8 ∧ imageByte bytes 1 = 0x45#8 ∧ imageByte bytes 2 = 0x53#8 ∧ imageByte bytes 3 = 0x1A#8 := by
  match bytes, h with
  | b0 :: b1 :: b2 :: b3 :: rest, _ => simp [imageMagic, imageByte]

theorem byte_highNibble_eq_zero : ∀ b : Byte, b &&& 0xF0#8 = 0#8 ↔ b.toNat / 16 = 0 := by decide

theorem byte_shiftedNibble_eq_zero : ∀ b : Byte, b >>> 4 = 0#8 ↔ b.toNat / 16 = 0 := by decide

/-- The one mapper id of `mapperTable` is the two high nibbles both zero. -/
theorem imageMapperId_mem (bytes : List Byte) : imageMapperId bytes ∈ mapperTable ↔
    (imageByte bytes 6).toNat / 16 + (imageByte bytes 7).toNat / 16 * 16 = 0 := by
  have hid : imageMapperId bytes = 0 ↔ (imageByte bytes 7 &&& 0xF0#8) ||| (imageByte bytes 6 >>> 4) = 0#8 :=
    BitVec.toNat_eq (y := 0#8).symm
  rw [mapperTable, List.mem_singleton, hid, BitVec.or_eq_zero_iff, byte_highNibble_eq_zero, byte_shiftedNibble_eq_zero]
  omega

theorem imageValid_iff (bytes : List Byte) : imageValid bytes = true ↔ ¬ImageBad bytes := by
  have hbanks : imagePrgBanks bytes ≠ 0 ↔ ¬imageByte bytes 4 = 0#8 := not_congr (BitVec.toNat_eq (y := 0#8)).symm
  simp only [imageValid, Bool.and_eq_true, decide_eq_true_eq, imageMapperId_mem, hbanks, ImageBad, not_or, not_not,
    Nat.not_lt]
  simp only [imagePrgOffset, headerBytes, prgBankBytes, chrBankBytes]
  constructor
  · rintro ⟨⟨⟨⟨hlen, hmagic⟩, hdata⟩, hprg⟩, hid⟩
    exact ⟨hlen, (take_four_eq_magic hlen).mp hmagic, hdata, hprg, hid⟩
  · rintro ⟨hlen, hmagic, hdata, hprg, hid⟩
    exact ⟨⟨⟨⟨hlen, (take_four_eq_magic hlen).mpr hmagic⟩, hdata⟩, hprg⟩, hid⟩

/-- A slice of a list, laid out as a memory. -/
theorem read_ofBytes_slice (l : List Byte) (off : Nat) {n k : Nat} (h : k < n) :
    (Memory.ofBytes 0 ((l.drop off).take n)).read k = imageByte l (off + k) := by
  have hread := Memory.read_ofBytes ((l.drop off).take n) 0 k
  rw [Nat.zero_add] at hread
  rw [hread, List.getD_eq_getElem?_getD, List.getElem?_take_of_lt h, List.getElem?_drop, imageByte,
    List.getD_eq_getElem?_getD]
  rfl

theorem imageMapper_prg (bytes : List Byte) {k : Nat} (h : k < 16384 * imagePrgBanks bytes) :
    (imageMapper bytes).prg.read k = imageByte bytes (16 + imageTrainer bytes + k) := read_ofBytes_slice bytes _ h

theorem imageMapper_chr (bytes : List Byte) {k : Nat} (h : k < 8192 * imageChrBanks bytes) :
    (imageMapper bytes).chr.read k =
      imageByte bytes (16 + imageTrainer bytes + 16384 * imagePrgBanks bytes + k) := by
  rw [imageMapper]
  dsimp only
  rw [List.drop_drop]
  exact read_ofBytes_slice bytes _ h

theorem imageMapper_chrRam {bytes : List Byte} (h : imageByte bytes 5 = 0#8) : (imageMapper bytes).chr = [] := by
  rw [imageMapper]
  dsimp only
  rw [imageChrBanks, h]
  rfl

/-- PRG from 0x8000 on, in a state with an image's Mapper. -/
theorem memRead_imageMapper {bytes : List Byte} {t : State} (hm : t.mapper = some (.fixed (imageMapper bytes)))
    (hbanks : imageByte bytes 4 ≠ 0#8) {a : Addr} (h : 0x8000 ≤ a.toNat) : (memRead a t).1 =
      imageByte bytes (16 + imageTrainer bytes + (a.toNat - 0x8000) % (16384 * imagePrgBanks bytes)) := by
  have hpos : 0 < imagePrgBanks bytes := Nat.pos_of_ne_zero fun h0 => hbanks (BitVec.eq_of_toNat_eq h0)
  rw [memRead_prg hm h]
  exact imageMapper_prg bytes (Nat.mod_lt _ (Nat.mul_pos (by decide) hpos))

/-- Settles O56: `imageValid_iff` tells the two cases apart, and an accepted image is `imageMapper` and `consoleReset`. -/
theorem loadRomValidates : Obligations.LoadRomValidates := by
  intro bytes s b trainer prgLen chrLen bad t
  have hvalid : imageValid bytes = true ↔ ¬bad := imageValid_iff bytes
  refine ⟨fun hbad => if_neg (fun h => hvalid.mp h hbad), fun hgood => ?_, fun hgood => ?_⟩
  · exact ⟨imageMapper bytes, if_pos (hvalid.mpr hgood), rfl, rfl, rfl, fun k => imageMapper_prg bytes,
      fun k => imageMapper_chr bytes, imageMapper_chrRam⟩
  · have hload : t = consoleReset { s with
        mapper := some (.fixed (imageMapper bytes)), console := { s.console with loaded := true } } :=
      congrArg Prod.snd (if_pos (hvalid.mpr hgood))
    have hbanks : b 4 ≠ 0#8 := fun h => hgood (.inr (.inr (.inr (.inl h))))
    rw [consoleReset_eq] at hload
    have hm : t.mapper = some (.fixed (imageMapper bytes)) := by rw [hload]
    have hpc : t.cpu = { Cpu.init with pc := vectorWord 0xFFFC#16 t } := by
      rw [hload]
      rfl
    refine ⟨by rw [hload], by rw [hload]; rfl, hpc, by rw [hload], by rw [hload]; rfl, by rw [hload]; rfl,
      by rw [hload]; rfl, by rw [hload]; rfl, by rw [hload]; rfl, fun a => memRead_imageMapper hm hbanks,
      fun hone htrainer => ?_⟩
    have hread : ∀ {a : Addr}, 0x8000 ≤ a.toNat → mapperCpuRead t.cfg.unmappedRead t.mapper a =
        b (16 + (a.toNat - 0x8000) % 16384) := by
      intro a ha
      have hprg := memRead_imageMapper hm hbanks ha
      rw [memRead_cartridge (by omega), imagePrgBanks, show imageByte bytes 4 = 1#8 from hone,
        show imageTrainer bytes = 0 from htrainer] at hprg
      exact hprg
    rw [hpc]
    show vectorWord 0xFFFC#16 t = _
    rw [vectorWord, hread (by decide), hread (by decide)]
    rfl

end Sys2Proof.Machine
end

section
/-! The APU: its register writes, its timers, the frame sequencer and the sample clock. -/
namespace Sys2Proof.Machine

open Sys2Proof.Safety Sys2Proof.Config

/-! ### Register fields in plain arithmetic -/

theorem field_eq_ofNat (v : BitVec n) (low w : Nat) : field v low w = BitVec.ofNat w (v.toNat / 2 ^ low) :=
  BitVec.eq_of_toNat_eq (by rw [field_toNat, BitVec.toNat_ofNat])

theorem ofNat_mod_two_pow (w k : Nat) : BitVec.ofNat w (k % 2 ^ w) = BitVec.ofNat w k :=
  BitVec.eq_of_toNat_eq (by rw [BitVec.toNat_ofNat, BitVec.toNat_ofNat, Nat.mod_mod])

/-- A field from bit 0 on. -/
theorem lowField_eq (v : BitVec n) (w : Nat) : field v 0 w = BitVec.ofNat w (v.toNat % 2 ^ w) := by
  rw [field_eq_ofNat, ofNat_mod_two_pow, Nat.pow_zero, Nat.div_one]

theorem midField_eq (v : BitVec n) (low w : Nat) : field v low w = BitVec.ofNat w (v.toNat / 2 ^ low % 2 ^ w) := by
  rw [field_eq_ofNat, ofNat_mod_two_pow]

/-- R504: the low eight bits of a period. -/
theorem periodLow_eq (v : Byte) (period : BitVec 11) :
    periodLow v period = BitVec.ofNat 11 (period.toNat / 256 * 256 + v.toNat) := by
  have hkeep : ∀ i < 11, (0x700#11).getLsbD i = decide (8 ≤ i) := by decide
  have hbits : periodLow v period = field period 8 3 ++ v := by
    refine BitVec.eq_of_getLsbD_eq fun i hi => ?_
    rw [BitVec.getLsbD_append, periodLow]
    grind [field_getLsbD]
  refine BitVec.eq_of_toNat_eq ?_
  rw [hbits, append_toNat, field_toNat, BitVec.toNat_ofNat]
  omega

/-- R505: the high three bits of a period. -/
theorem periodHigh_eq (v : Byte) (period : BitVec 11) :
    periodHigh v period = BitVec.ofNat 11 (v.toNat % 8 * 256 + period.toNat % 256) := by
  have hbits : periodHigh v period = field v 0 3 ++ field period 0 8 := by
    refine BitVec.eq_of_getLsbD_eq fun i hi => ?_
    rw [BitVec.getLsbD_append, periodHigh]
    grind [lowMask_getLsbD 11 8, lowMask_getLsbD 8 3, field_getLsbD]
  refine BitVec.eq_of_toNat_eq ?_
  rw [hbits, append_toNat, field_toNat, field_toNat, BitVec.toNat_ofNat]
  omega

theorem lengthOf_eq (v : Byte) : lengthOf v = lengthTable.getD (v.toNat / 8) 0#8 := by
  rw [lengthOf, BitVec.toNat_ushiftRight, Nat.shiftRight_eq_div_pow]

/-- R508: the sample's address. -/
theorem sampleAddr_eq : ∀ v : Byte, 0xC000#16 ||| (v.setWidth 16 <<< 6) = BitVec.ofNat 16 (0xC000 + 64 * v.toNat) := by
  decide

/-- R508: the sample's length. -/
theorem sampleLen_eq : ∀ v : Byte, (v.setWidth 12 <<< 4) ||| 1#12 = BitVec.ofNat 12 (16 * v.toNat + 1) := by decide

theorem and_not_eq_ite (a b : Bool) : (a && !b) = if b then false else a := by
  cases b <;> simp

theorem and_eq_ite (a b : Bool) : (a && b) = if b then a else false := by
  cases b <;> simp

/-! ### The register writes of each channel -/

section
variable (v : Byte)

theorem Pulse.writeControl_eq (p : Pulse) : p.writeControl v = { p with
    duty := BitVec.ofNat 2 (v.toNat / 64), halt := v.getLsbD 5, constant := v.getLsbD 4
    vol := BitVec.ofNat 4 (v.toNat % 16) } := by
  rw [Pulse.writeControl, field_eq_ofNat, lowField_eq]
  rfl

theorem Pulse.writeSweep_eq (p : Pulse) : p.writeSweep v = { p with
    sweepEn := v.getLsbD 7, sweepPeriod := BitVec.ofNat 3 (v.toNat / 16 % 8), sweepNeg := v.getLsbD 3
    sweepShift := BitVec.ofNat 3 (v.toNat % 8), sweepReload := true } := by
  rw [Pulse.writeSweep, midField_eq, lowField_eq]
  rfl

theorem Pulse.writePeriodLow_eq (p : Pulse) : p.writePeriodLow v = { p with
    period := BitVec.ofNat 11 (p.period.toNat / 256 * 256 + v.toNat) } := by
  rw [Pulse.writePeriodLow, periodLow_eq]

theorem Pulse.writeLength_eq (p : Pulse) : p.writeLength v = { p with
    period := BitVec.ofNat 11 (v.toNat % 8 * 256 + p.period.toNat % 256)
    length := if p.enabled then lengthTable.getD (v.toNat / 8) 0#8 else p.length
    seq := 0#3, env := { p.env with start := true } } := by
  rw [Pulse.writeLength, periodHigh_eq, lengthOf_eq]

theorem Triangle.writeControl_eq (t : Triangle) : t.writeControl v = { t with
    control := v.getLsbD 7, linPeriod := BitVec.ofNat 7 (v.toNat % 128) } := by
  rw [Triangle.writeControl, lowField_eq]
  rfl

theorem Triangle.writePeriodLow_eq (t : Triangle) : t.writePeriodLow v = { t with
    period := BitVec.ofNat 11 (t.period.toNat / 256 * 256 + v.toNat) } := by
  rw [Triangle.writePeriodLow, periodLow_eq]

theorem Triangle.writeLength_eq (t : Triangle) : t.writeLength v = { t with
    period := BitVec.ofNat 11 (v.toNat % 8 * 256 + t.period.toNat % 256)
    length := if t.enabled then lengthTable.getD (v.toNat / 8) 0#8 else t.length
    linReload := true } := by
  rw [Triangle.writeLength, periodHigh_eq, lengthOf_eq]

theorem Noise.writeControl_eq (n : Noise) : n.writeControl v = { n with
    halt := v.getLsbD 5, constant := v.getLsbD 4, vol := BitVec.ofNat 4 (v.toNat % 16) } := by
  rw [Noise.writeControl, lowField_eq]
  rfl

theorem Noise.writeRate_eq (n : Noise) : n.writeRate v = { n with
    mode := v.getLsbD 7, rate := BitVec.ofNat 4 (v.toNat % 16) } := by
  rw [Noise.writeRate, lowField_eq]
  rfl

theorem Noise.writeLength_eq (n : Noise) : n.writeLength v = { n with
    length := if n.enabled then lengthTable.getD (v.toNat / 8) 0#8 else n.length
    env := { n.env with start := true } } := by
  rw [Noise.writeLength, lengthOf_eq]

theorem Dmc.writeControl_eq (d : Dmc) : d.writeControl v = { d with
    irqEn := v.getLsbD 7, loop := v.getLsbD 6, rate := BitVec.ofNat 4 (v.toNat % 16)
    irqFlag := if v.getLsbD 7 then d.irqFlag else false } := by
  rw [Dmc.writeControl, lowField_eq, and_eq_ite]
  rfl

theorem Dmc.writeLevel_eq (d : Dmc) : d.writeLevel v = { d with level := BitVec.ofNat 7 (v.toNat % 128) } := by
  rw [Dmc.writeLevel, lowField_eq]
  rfl

theorem Dmc.writeAddr_eq (d : Dmc) : d.writeAddr v = { d with
    sampleAddr := BitVec.ofNat 16 (0xC000 + 64 * v.toNat) } := by
  rw [Dmc.writeAddr, sampleAddr_eq]

theorem Dmc.writeLen_eq (d : Dmc) : d.writeLen v = { d with sampleLen := BitVec.ofNat 12 (16 * v.toNat + 1) } := by
  rw [Dmc.writeLen, sampleLen_eq]

theorem Dmc.writeEnable_eq (on : Bool) (d : Dmc) : d.writeEnable on =
    if on = false then { d with irqFlag := false, bytesRemaining := 0#12 }
    else if d.bytesRemaining = 0#12 then
      { d with irqFlag := false, curAddr := d.sampleAddr, bytesRemaining := d.sampleLen }
    else { d with irqFlag := false } := by
  cases on <;> rfl

theorem Apu.writeSequencer_eq (u : Apu) : u.writeSequencer v =
    if v.getLsbD 7 then
      { u with
        seqMode := v.getLsbD 7, irqInhibit := v.getLsbD 6, seqCycle := 0
        frameIrq := if v.getLsbD 6 then false else u.frameIrq : Apu }.quarterFrame.halfFrame
    else { u with
      seqMode := v.getLsbD 7, irqInhibit := v.getLsbD 6, seqCycle := 0
      frameIrq := if v.getLsbD 6 then false else u.frameIrq } := by
  rw [Apu.writeSequencer, and_not_eq_ite]

/-- A write to an APU register, from what `apuRegWrite` makes of the APU. -/
theorem memWrite_apuRegister {a : Addr} (k : Nat) (s : State) {u : Apu} (h : apuRegWrite k v s.apu = u)
    (ha : a.toNat = 0x4000 + k ∧ k ≤ 0x17 ∧ k ≠ 0x14 ∧ k ≠ 0x16 := by decide) :
    memWrite a v s = { s with apu := u } := by
  obtain ⟨haddr, hhigh, hdma, hpad⟩ := ha
  rw [memWrite_apu (by omega) (by omega) (by omega) (by omega), haddr, Nat.add_sub_cancel_left, h]

end

/-- Settles O44: each register's write is that of its channel, its fields in plain arithmetic. -/
theorem apuRegisterWrites : Obligations.ApuRegisterWrites := by
  intro v s n low high load kept with_ u duty sweep timerLow timerHigh dmc seq
  refine ⟨?_, ?_, ?_, ?_, ?_, ?_, ?_, ?_, ?_, ?_, ?_, ?_, ?_, ?_, ?_, ?_, ?_, ?_, ?_, ?_, ?_, ?_⟩
  · exact memWrite_apuRegister v 0x00 s (congrArg (fun p => { u with pulse1 := p }) (Pulse.writeControl_eq v _))
  · exact memWrite_apuRegister v 0x01 s (congrArg (fun p => { u with pulse1 := p }) (Pulse.writeSweep_eq v _))
  · exact memWrite_apuRegister v 0x02 s (congrArg (fun p => { u with pulse1 := p }) (Pulse.writePeriodLow_eq v _))
  · exact memWrite_apuRegister v 0x03 s (congrArg (fun p => { u with pulse1 := p }) (Pulse.writeLength_eq v _))
  · exact memWrite_apuRegister v 0x04 s (congrArg (fun p => { u with pulse2 := p }) (Pulse.writeControl_eq v _))
  · exact memWrite_apuRegister v 0x05 s (congrArg (fun p => { u with pulse2 := p }) (Pulse.writeSweep_eq v _))
  · exact memWrite_apuRegister v 0x06 s (congrArg (fun p => { u with pulse2 := p }) (Pulse.writePeriodLow_eq v _))
  · exact memWrite_apuRegister v 0x07 s (congrArg (fun p => { u with pulse2 := p }) (Pulse.writeLength_eq v _))
  · exact memWrite_apuRegister v 0x08 s (congrArg (fun t => { u with tri := t }) (Triangle.writeControl_eq v _))
  · exact memWrite_apuRegister v 0x09 s rfl
  · exact memWrite_apuRegister v 0x0A s (congrArg (fun t => { u with tri := t }) (Triangle.writePeriodLow_eq v _))
  · exact memWrite_apuRegister v 0x0B s (congrArg (fun t => { u with tri := t }) (Triangle.writeLength_eq v _))
  · exact memWrite_apuRegister v 0x0C s (congrArg (fun m => { u with noise := m }) (Noise.writeControl_eq v _))
  · exact memWrite_apuRegister v 0x0D s rfl
  · exact memWrite_apuRegister v 0x0E s (congrArg (fun m => { u with noise := m }) (Noise.writeRate_eq v _))
  · exact memWrite_apuRegister v 0x0F s (congrArg (fun m => { u with noise := m }) (Noise.writeLength_eq v _))
  · exact memWrite_apuRegister v 0x10 s (congrArg (fun d => { u with dmc := d }) (Dmc.writeControl_eq v _))
  · exact memWrite_apuRegister v 0x11 s (congrArg (fun d => { u with dmc := d }) (Dmc.writeLevel_eq v _))
  · exact memWrite_apuRegister v 0x12 s (congrArg (fun d => { u with dmc := d }) (Dmc.writeAddr_eq v _))
  · exact memWrite_apuRegister v 0x13 s (congrArg (fun d => { u with dmc := d }) (Dmc.writeLen_eq v _))
  · refine memWrite_apuRegister v 0x15 s ?_
    exact congrArg (fun d => { u.writeEnables v with dmc := d }) (Dmc.writeEnable_eq _ _)
  · exact memWrite_apuRegister v 0x17 s (Apu.writeSequencer_eq v u)

end Sys2Proof.Machine
end

section
/-! The APU's counters: the channel timers, the frame sequencer and the sample clock, each over many clocks. -/
namespace Sys2Proof.Machine

open Sys2Proof.Safety Sys2Proof.Config

/-! ### A timer over many clocks -/

theorem repeat_succ_inner (f : α → α) (n : Nat) (a : α) : Nat.repeat f (n + 1) a = Nat.repeat f n (f a) := by
  induction n with
  | zero => rfl
  | succ n ih => exact congrArg f ih

/-- A clock `f` counts the timer of a unit down while it is not 0; `get` and `set` reach the timer. -/
structure Countdown (f : α → α) (get : α → BitVec w) (set : BitVec w → α → α) : Prop where
  down : ∀ a, get a ≠ 0#w → f a = set (get a - 1#w) a
  get_set : ∀ x a, get (set x a) = x
  set_set : ∀ x y a, set x (set y a) = set x a
  set_get : ∀ a, set (get a) a = a

section
variable {f : α → α} {get : α → BitVec w} {set : BitVec w → α → α} (h : Countdown f get set)
include h

theorem Countdown.run (a : α) (k : Nat) (hk : k ≤ (get a).toNat) : Nat.repeat f k a = set (get a - BitVec.ofNat w k) a := by
  induction k with
  | zero => exact (h.set_get a).symm.trans (by rw [BitVec.sub_zero])
  | succ k ih =>
    have hlt := (get a).isLt
    have hne : get a - BitVec.ofNat w k ≠ 0#w := fun h0 => by
      have h0 := congrArg BitVec.toNat (BitVec.sub_eq_iff_eq_add.mp h0)
      rw [BitVec.zero_add, BitVec.toNat_ofNat, Nat.mod_eq_of_lt (by omega)] at h0
      omega
    rw [Nat.repeat, ih (by omega), h.down _ (by rwa [h.get_set]), h.get_set, h.set_set, BitVec.ofNat_add, BitVec.sub_sub]

/-- After as many clocks as the timer holds it stands at 0. -/
theorem Countdown.run_to_zero (a : α) : Nat.repeat f (get a).toNat a = set 0#w a := by
  rw [h.run a _ (Nat.le_refl _), BitVec.ofNat_toNat, BitVec.setWidth_eq, BitVec.sub_self]

/-- One clock more is the clock of a timer at 0. -/
theorem Countdown.reload (a : α) : Nat.repeat f ((get a).toNat + 1) a = f (set 0#w a) :=
  congrArg f (h.run_to_zero a)

/-- A whole period: the clock at 0, which reloads the timer, and the count down to 0. -/
theorem Countdown.period (a : α) {n : Nat} (hn : (get (f a)).toNat = n) : Nat.repeat f (n + 1) a = set 0#w (f a) := by
  rw [repeat_succ_inner, ← hn, h.run_to_zero]

end

/-! ### The four kinds of timer -/

theorem pulse_countdown : Countdown Pulse.clockTimer Pulse.timer (fun x p => { p with timer := x }) :=
  ⟨fun _ h => if_neg h, fun _ _ => rfl, fun _ _ _ => rfl, fun _ => rfl⟩

theorem Pulse.clockTimer_zero {p : Pulse} (h : p.timer = 0#11) :
    p.clockTimer = { p with timer := p.period, seq := p.seq + 1#3 } := if_pos h

theorem triangle_countdown : Countdown Triangle.clockTimer Triangle.timer (fun x t => { t with timer := x }) :=
  ⟨fun _ h => if_neg h, fun _ _ => rfl, fun _ _ _ => rfl, fun _ => rfl⟩

theorem Triangle.clockTimer_zero {t : Triangle} (h : t.timer = 0#11) : t.clockTimer = { t with
    timer := t.period, seq := if t.length ≠ 0#8 ∧ t.lin ≠ 0#7 then t.seq + 1#5 else t.seq } := if_pos h

theorem noise_countdown : Countdown Noise.clockTimer Noise.timer (fun x n => { n with timer := x }) :=
  ⟨fun _ h => if_neg h, fun _ _ => rfl, fun _ _ _ => rfl, fun _ => rfl⟩

theorem Noise.clockTimer_zero {n : Noise} (h : n.timer = 0#12) : n.clockTimer = { n with
    timer := BitVec.ofNat 12 (noisePeriod.getD n.rate.toNat 0 / 2 - 1), lfsr := n.shifted } := if_pos h

theorem dmc_countdown : Countdown Dmc.clockTimer Dmc.timer (fun x d => { d with timer := x }) :=
  ⟨fun _ h => if_pos h, fun _ _ => rfl, fun _ _ _ => rfl, fun _ => rfl⟩

theorem Dmc.clockTimer_zero {d : Dmc} (h : d.timer = 0#9) : d.clockTimer =
    { d with timer := BitVec.ofNat 9 (dmcRate.getD d.rate.toNat 0 / 2 - 1) : Dmc }.clockOutput := if_neg (not_not.mpr h)

/-- Half a table period is at least one clock and fits the timer. -/
theorem noiseHalf_toNat : ∀ rate : BitVec 4, (BitVec.ofNat 12 (noisePeriod.getD rate.toNat 0 / 2 - 1)).toNat + 1 =
    noisePeriod.getD rate.toNat 0 / 2 := by decide

theorem dmcHalf_toNat : ∀ rate : BitVec 4, (BitVec.ofNat 9 (dmcRate.getD rate.toNat 0 / 2 - 1)).toNat + 1 =
    dmcRate.getD rate.toNat 0 / 2 := by decide

/-- The output unit leaves the timer and the rate alone. -/
theorem Dmc.clockOutput_timer (d : Dmc) : d.clockOutput.timer = d.timer := by
  unfold Dmc.clockOutput Dmc.nextByte
  dsimp only
  repeat' split
  all_goals rfl

theorem byte_shiftRight_eq_half (b : Byte) : b >>> 1 = BitVec.ofNat 8 (b.toNat / 2) := byte_shiftRight_one b

section
variable (d : Dmc)

/-- R529: an output bit that is not the byte's last. -/
theorem Dmc.clockOutput_more (h : 2 ≤ d.bitsRemaining) : d.clockOutput = { d with
    level := d.nextLevel, shift := BitVec.ofNat 8 (d.shift.toNat / 2), bitsRemaining := d.bitsRemaining - 1 } := by
  rw [← byte_shiftRight_eq_half]
  exact if_neg (show d.bitsRemaining - 1 ≠ 0 by omega)

/-- R529: the byte's last bit, with a byte in the buffer. -/
theorem Dmc.clockOutput_reload (h : d.bitsRemaining = 1) (hfull : d.bufferFull = true) : d.clockOutput = { d with
    level := d.nextLevel, shift := d.buffer, bitsRemaining := 8, silence := false, bufferFull := false } := by
  rw [Dmc.clockOutput, Dmc.nextByte, h, if_pos rfl, if_pos hfull]

/-- R529: the byte's last bit, with the buffer empty. -/
theorem Dmc.clockOutput_silence (h : d.bitsRemaining = 1) (hempty : d.bufferFull = false) : d.clockOutput = { d with
    level := d.nextLevel, shift := BitVec.ofNat 8 (d.shift.toNat / 2), bitsRemaining := 8, silence := true } := by
  rw [Dmc.clockOutput, Dmc.nextByte, h, if_pos rfl, if_neg (ne_true_of_eq_false hempty), byte_shiftRight_eq_half]

end

/-- Settles O46: each timer is a `Countdown`, and its clock at 0 is its unit's. -/
theorem channelTimers : Obligations.ChannelTimers := by
  refine ⟨fun p => ⟨?_, fun h => ?_⟩, fun t => ?_, fun n => ?_, fun d => ?_⟩
  · exact (pulse_countdown.reload p).trans (Pulse.clockTimer_zero rfl)
  · have hclock := Pulse.clockTimer_zero h
    rw [pulse_countdown.period p (congrArg (fun q => q.timer.toNat) hclock), hclock, ← h]
  · intro seq
    refine ⟨(triangle_countdown.reload t).trans (Triangle.clockTimer_zero rfl), fun h => ?_⟩
    have hclock := Triangle.clockTimer_zero h
    rw [triangle_countdown.period t (congrArg (fun q => q.timer.toNat) hclock), hclock, ← h]
  · intro half
    refine ⟨(noise_countdown.reload n).trans (Noise.clockTimer_zero rfl), fun h => ?_⟩
    have hclock := Noise.clockTimer_zero h
    rw [show half = _ from (noiseHalf_toNat n.rate).symm,
      noise_countdown.period n (congrArg (fun q => q.timer.toNat) hclock), hclock, ← h]
  · intro half level e
    have he : e = _ := (dmc_countdown.reload d).trans (Dmc.clockTimer_zero rfl)
    refine ⟨fun h => ?period, fun h => ?more, fun h hfull => ?reload, fun h hempty => ?silence⟩
    case period =>
      have hone : e = d.clockTimer := by rw [show e = Nat.repeat Dmc.clockTimer (d.timer.toNat + 1) d from rfl, h]; rfl
      have htimer : d.clockTimer.timer.toNat = (BitVec.ofNat 9 (dmcRate.getD d.rate.toNat 0 / 2 - 1)).toNat := by
        rw [Dmc.clockTimer_zero h, Dmc.clockOutput_timer]
      rw [show half = _ from (dmcHalf_toNat d.rate).symm, dmc_countdown.period d htimer, hone]
    case more => exact he.trans (Dmc.clockOutput_more _ h)
    case reload => exact he.trans (Dmc.clockOutput_reload _ h hfull)
    case silence => exact he.trans (Dmc.clockOutput_silence _ h hempty)

/-! ### The frame sequencer -/

/-- The last cycle of a round. -/
def seqEnd (mode : Bool) : Nat := if mode then 37282 else 29830

/-- The cycle of a round's second half frame, in each mode. -/
def seqLastHalf (mode : Bool) : Nat := if mode then 37281 else 29829

section
variable (u : Apu)

/-- What one cycle of the sequencer leaves alone. -/
theorem sequencer_keeps : u.sequencer.seqMode = u.seqMode ∧ u.sequencer.irqInhibit = u.irqInhibit ∧
    u.sequencer.noise.halt = u.noise.halt := by
  unfold Apu.sequencer Apu.sequence4 Apu.sequence5
  dsimp only
  repeat' split
  all_goals exact ⟨rfl, rfl, rfl⟩

theorem sequencer_seqCycle : u.sequencer.seqCycle = if u.seqCycle + 1 = seqEnd u.seqMode then 0 else u.seqCycle + 1 := by
  unfold Apu.sequencer Apu.sequence4 Apu.sequence5 seqEnd
  dsimp only
  split <;> split <;> simp_all [Apu.quarterFrame, Apu.halfFrame]

theorem sequencer_frameIrq : u.sequencer.frameIrq =
    if u.seqMode = false ∧ u.seqCycle + 1 = 29829 then u.frameIrq || !u.irqInhibit else u.frameIrq := by
  unfold Apu.sequencer Apu.sequence4 Apu.sequence5
  dsimp only
  split <;> split <;> simp_all [Apu.quarterFrame, Apu.halfFrame]

theorem sequencer_length : u.sequencer.noise.length =
    if u.seqCycle + 1 = 14913 ∨ u.seqCycle + 1 = seqLastHalf u.seqMode then clockLength u.noise.halt u.noise.length
    else u.noise.length := by
  unfold Apu.sequencer Apu.sequence4 Apu.sequence5 seqLastHalf
  dsimp only
  split <;> split <;> simp_all [Apu.quarterFrame, Apu.halfFrame, Noise.quarter]

end

/-- The sequencer `n` cycles into the round that began at `u`. -/
structure SeqAt (u : Apu) (n : Nat) (v : Apu) : Prop where
  mode : v.seqMode = u.seqMode
  inhibit : v.irqInhibit = u.irqInhibit
  halt : v.noise.halt = u.noise.halt
  irq : v.frameIrq = (u.frameIrq || (decide (29829 ≤ n) && !u.seqMode && !u.irqInhibit))
  length : v.noise.length =
    if n < 14913 then u.noise.length
    else if n < seqLastHalf u.seqMode then clockLength u.noise.halt u.noise.length
    else clockLength u.noise.halt (clockLength u.noise.halt u.noise.length)

/-- One cycle of the sequencer, `n` cycles into its round. -/
theorem SeqAt.sequencer {u v : Apu} {n : Nat} (h : SeqAt u n v) (hc : v.seqCycle = n) : SeqAt u (n + 1) v.sequencer := by
  obtain ⟨hmode, hinhibit, hhalt⟩ := sequencer_keeps v
  refine ⟨hmode.trans h.mode, hinhibit.trans h.inhibit, hhalt.trans h.halt, ?irq, ?length⟩
  case irq =>
    rw [sequencer_frameIrq, hc, h.mode, h.inhibit, h.irq]
    by_cases h1 : n + 1 = 29829
    · cases u.seqMode <;> simp [h1, show ¬29829 ≤ n by omega]
    · have : (29829 ≤ n) ↔ (29829 ≤ n + 1) := by omega
      simp [h1, this]
  case length =>
    have hlast : 14913 < seqLastHalf u.seqMode := by
      unfold seqLastHalf
      split <;> decide
    rw [sequencer_length, hc, h.mode, h.halt, h.length]
    grind

theorem seqAt_zero (u : Apu) : SeqAt u 0 u := ⟨rfl, rfl, rfl, by simp, rfl⟩

/-- A round of the sequencer, from its start to its last cycle. -/
theorem sequencer_run {u : Apu} (h0 : u.seqCycle = 0) (n : Nat) (hn : n < seqEnd u.seqMode) :
    (Nat.repeat Apu.sequencer n u).seqCycle = n ∧ SeqAt u n (Nat.repeat Apu.sequencer n u) := by
  induction n with
  | zero => exact ⟨h0, seqAt_zero u⟩
  | succ n ih =>
    obtain ⟨hcycle, hat⟩ := ih (by omega)
    refine ⟨?_, hat.sequencer hcycle⟩
    rw [Nat.repeat, sequencer_seqCycle, hat.mode, hcycle, if_neg (by omega)]

theorem seqEnd_pos (mode : Bool) : 0 < seqEnd mode := by
  unfold seqEnd
  split <;> decide

/-- The last cycle of a round, which starts the next. -/
theorem sequencer_round {u : Apu} (h0 : u.seqCycle = 0) {n : Nat} (hn : n = seqEnd u.seqMode) :
    (Nat.repeat Apu.sequencer n u).seqCycle = 0 ∧ SeqAt u n (Nat.repeat Apu.sequencer n u) := by
  obtain ⟨k, rfl⟩ := Nat.exists_eq_succ_of_ne_zero (hn.trans_ne (Nat.ne_of_gt (seqEnd_pos u.seqMode)))
  obtain ⟨hcycle, hat⟩ := sequencer_run h0 k (by omega)
  refine ⟨?_, hat.sequencer hcycle⟩
  rw [Nat.repeat, sequencer_seqCycle, hat.mode, hcycle, if_pos hn]

/-- Settles O47: `SeqAt` follows the round cycle by cycle; the IRQ and the two half frames are at cycles it names. -/
theorem frameSequencer : Obligations.FrameSequencer := by
  intro u h0 twice
  refine ⟨fun hmode => ?four, fun hmode => ?five⟩
  case four =>
    have hend : seqEnd u.seqMode = 29830 := by rw [hmode]; rfl
    obtain ⟨hcycle, hround⟩ := sequencer_round h0 (n := 29830) hend.symm
    refine ⟨fun n hn => ?_, ?_, hcycle, ?_⟩
    · have hat := (sequencer_run h0 n (by omega)).2.irq
      rwa [decide_eq_false (by omega), Bool.false_and, Bool.false_and, Bool.or_false] at hat
    · have hat := (sequencer_run h0 29829 (by omega)).2.irq
      rwa [hmode] at hat
    · have hlength := hround.length
      rwa [hmode] at hlength
  case five =>
    have hend : seqEnd u.seqMode = 37282 := by rw [hmode]; rfl
    obtain ⟨hcycle, hround⟩ := sequencer_round h0 (n := 37282) hend.symm
    have hirq : ∀ {n}, SeqAt u n (Nat.repeat Apu.sequencer n u) →
        (Nat.repeat Apu.sequencer n u).frameIrq = u.frameIrq := fun hat => by
      rw [hat.irq, hmode, Bool.not_true, Bool.and_false, Bool.false_and, Bool.or_false]
    refine ⟨fun n hn => ?_, hcycle, ?_⟩
    · rcases Nat.lt_or_eq_of_le hn with hlt | rfl
      · exact hirq (sequencer_run h0 n (by omega)).2
      · exact hirq hround
    · have hlength := hround.length
      rwa [hmode] at hlength

/-! ### The sample clock -/

/-- One sample clock appends one sample when a period is over, else none. -/
theorem sampleClock_queue (cfg : Params) (u : Apu) : (u.sampleClock cfg).queue =
    if cfg.cpuHz ≤ u.sampleAcc + cfg.sampleRate then u.queue ++ [u.mix] else u.queue := by
  unfold Apu.sampleClock
  dsimp only
  split <;> rfl

/-- The accumulator and the count of samples after `n` clocks, as quotient and remainder of what has gone in. -/
theorem sampleClock_run {cfg : Params} (hrate : cfg.sampleRate ≤ cfg.cpuHz) {u : Apu} (hacc : u.sampleAcc < cfg.cpuHz)
    (n : Nat) : ∃ samples, (Nat.repeat (Apu.sampleClock cfg) n u).queue = u.queue ++ samples ∧
      (Nat.repeat (Apu.sampleClock cfg) n u).sampleAcc < cfg.cpuHz ∧
      (Nat.repeat (Apu.sampleClock cfg) n u).sampleAcc + cfg.cpuHz * samples.length =
        u.sampleAcc + n * cfg.sampleRate := by
  induction n with
  | zero => exact ⟨[], (List.append_nil _).symm, hacc, by simp [Nat.repeat]⟩
  | succ n ih =>
    obtain ⟨samples, hqueue, hlt, hsum⟩ := ih
    rw [Nat.repeat, sampleClock_queue, sampleClock_acc, hqueue, Nat.succ_mul]
    by_cases hover : cfg.cpuHz ≤ (Nat.repeat (Apu.sampleClock cfg) n u).sampleAcc + cfg.sampleRate
    · refine ⟨samples ++ [(Nat.repeat (Apu.sampleClock cfg) n u).mix], ?_, ?_, ?_⟩
      · rw [if_pos hover, List.append_assoc]
      · rw [if_pos hover]
        omega
      · rw [if_pos hover, List.length_append, List.length_singleton, Nat.mul_succ]
        omega
    · refine ⟨samples, if_neg hover, ?_, ?_⟩
      · rw [if_neg hover]
        omega
      · rw [if_neg hover]
        omega

/-- Settles O48: quotient and remainder of `sampleClock_run`. -/
theorem sampleClockIsExact : Obligations.SampleClockIsExact := by
  intro cfg n u hrate hacc v
  obtain ⟨samples, hqueue, hlt, hsum⟩ := sampleClock_run hrate hacc n
  have hdiv := (Nat.div_mod_unique (Nat.zero_lt_of_lt hacc)).mpr ⟨hsum, hlt⟩
  refine ⟨hdiv.2.symm, ?_, ?_⟩
  · rw [show v.queue = _ from hqueue, List.length_append, hdiv.1]
  · rw [show v.queue = _ from hqueue]
    exact List.prefix_append _ _

end Sys2Proof.Machine
end

section
/-! The PPU: PPUDATA writes read back, the pixels of a dot and of a frame, sprite evaluation. -/
namespace Sys2Proof.Machine

open Sys2Proof.Safety Sys2Proof.Config

/-! ### The PPU's address space, region by region -/

section
variable {u : Byte} {m : FixedMapper} {p : Ppu} {b : BitVec 14}

theorem ppuRead_chr (h : b.toNat < 0x2000) : ppuRead u (some (.fixed m)) p b = m.chr.read b.toNat :=
  if_pos (Nat.le_of_lt_succ h)

theorem ppuRead_nametable (h : 0x2000 ≤ b.toNat) (h' : b.toNat < 0x3F00) :
    ppuRead u (some (.fixed m)) p b = p.vram.read (ntIndex m.mirroring b) := by
  rw [ppuRead, if_neg (by omega), if_pos (by omega)]
  rfl

theorem ppuRead_palette (h : 0x3F00 ≤ b.toNat) :
    ppuRead u (some (.fixed m)) p b = (Store.read 0#6 p.palette (palIndex b)).setWidth 8 := by
  rw [ppuRead, if_neg (by omega), if_neg (by omega)]

/-- A change of the palette and of `v` is not seen below the palette. -/
theorem ppuRead_withPalette (pal : Store (BitVec 6)) (v : BitVec 15) (h : b.toNat < 0x3F00) :
    ppuRead u (some (.fixed m)) { p with palette := pal, v := v } b = ppuRead u (some (.fixed m)) p b := by
  by_cases hb : b.toNat < 0x2000
  · rw [ppuRead_chr hb, ppuRead_chr hb]
  · rw [ppuRead_nametable (by omega) h, ppuRead_nametable (by omega) h]

/-- A change of the nametables and of `v` is not seen outside the nametables. -/
theorem ppuRead_withVram (vram : Memory) (v : BitVec 15) (h : b.toNat < 0x2000 ∨ 0x3F00 ≤ b.toNat) :
    ppuRead u (some (.fixed m)) { p with vram := vram, v := v } b = ppuRead u (some (.fixed m)) p b := by
  rcases h with h | h
  · rw [ppuRead_chr h, ppuRead_chr h]
  · rw [ppuRead_palette h, ppuRead_palette h]

/-- A change of the CHR store and of `v` is not seen from 0x2000 on. -/
theorem ppuRead_withChr (chr : Memory) (v : BitVec 15) (h : 0x2000 ≤ b.toNat) :
    ppuRead u (some (.fixed { m with chr := chr })) { p with v := v } b = ppuRead u (some (.fixed m)) p b := by
  by_cases hb : b.toNat < 0x3F00
  · rw [ppuRead_nametable h hb, ppuRead_nametable h hb]
  · rw [ppuRead_palette (by omega), ppuRead_palette (by omega)]

end

/-- R102: the nametable behind an address, and the place in it. -/
def ntTable (m : FixedMapper) (b : BitVec 14) : Nat :=
  if m.mirroring = .horizontal then b.toNat / 0x800 % 2 else b.toNat / 0x400 % 2

/-- R102: two nametable addresses share a cell when they have the same place in the same nametable. -/
theorem ntIndex_eq_iff (m : FixedMapper) (a b : BitVec 14) : ntIndex m.mirroring b = ntIndex m.mirroring a ↔
    b.toNat % 0x400 = a.toNat % 0x400 ∧ ntTable m b = ntTable m a := by
  unfold ntIndex ntTable
  cases m.mirroring <;> simp only [if_true, reduceCtorEq, if_false] <;> omega

/-! ### A PPUDATA write, region by region -/

theorem memWrite_ppuData (v : Byte) (s : State) : memWrite 0x2007#16 v s = ppuDataWrite v s :=
  memWrite_ppu (by decide) (by decide) v s

section
variable {s : State} {m : FixedMapper} (v : Byte) (hm : s.mapper = some (.fixed m))

/-- R410, R412: the address advances, wherever the byte went. -/
theorem ppuDataWrite_v : (ppuDataWrite v s).ppu.v = s.ppu.incrementAddr.v := by
  unfold ppuDataWrite ppuWrite
  repeat' split
  all_goals rfl

theorem ppuDataWrite_palette (h : 0x3F00 ≤ s.ppu.dataAddr.toNat) :
    ppuDataWrite v s = { s with ppu := { s.ppu with
      palette := Store.write 0#6 s.ppu.palette (palIndex s.ppu.dataAddr) (v.setWidth 6)
      v := s.ppu.incrementAddr.v } } := by
  rw [ppuDataWrite, ppuWrite, if_neg (by omega), if_neg (by omega)]
  rfl

include hm

theorem ppuDataWrite_chr (h : s.ppu.dataAddr.toNat < 0x2000) : ppuDataWrite v s = { s with
    mapper := some (.fixed { m with chr := if m.chrBanks = 0 then m.chr.write s.ppu.dataAddr.toNat v else m.chr })
    ppu := s.ppu.incrementAddr } := by
  rw [ppuDataWrite, ppuWrite, if_pos (by omega), hm, mapperPpuWrite]
  split <;> rfl

theorem ppuDataWrite_nametable (h : 0x2000 ≤ s.ppu.dataAddr.toNat) (h' : s.ppu.dataAddr.toNat < 0x3F00) :
    ppuDataWrite v s = { s with ppu := { s.ppu with
      vram := s.ppu.vram.write (ntIndex m.mirroring s.ppu.dataAddr) v, v := s.ppu.incrementAddr.v } } := by
  rw [ppuDataWrite, ppuWrite, if_neg (by omega), if_pos (by omega), hm]
  rfl

end

/-- What the PPU reads at an address of its own space. -/
def State.ppuByte (s : State) (b : BitVec 14) : Byte := ppuRead s.cfg.unmappedRead s.mapper s.ppu b

section
variable {s : State} {m : FixedMapper} (v : Byte) (hwf : Wf s) (hm : s.mapper = some (.fixed m))
include hwf hm

/-- R93: CHR RAM takes the byte, CHR ROM does not, and every other address reads as before. -/
theorem ppuData_chr (h : s.ppu.dataAddr.toNat < 0x2000) :
    (ppuDataWrite v s).ppuByte s.ppu.dataAddr = (if m.chrBanks = 0 then v else s.ppuByte s.ppu.dataAddr) ∧
      ∀ b, b ≠ s.ppu.dataAddr → (ppuDataWrite v s).ppuByte b = s.ppuByte b := by
  have hchr : m.chr.wf (chrSize m) = true := by
    have hmapper := hwf.mapper
    rw [hm] at hmapper
    exact hmapper.2.2
  simp only [State.ppuByte, ppuDataWrite_chr v hm h, hm]
  refine ⟨?_, fun b hb => ?_⟩
  · rw [ppuRead_chr h, ppuRead_chr h]
    split
    · exact Memory.read_write_same hchr _ _
    · rfl
  · by_cases hlow : b.toNat < 0x2000
    · rw [ppuRead_chr hlow, ppuRead_chr hlow]
      split
      · exact Memory.read_write_other hchr (fun heq => hb (BitVec.eq_of_toNat_eq heq)) _
      · rfl
    · exact ppuRead_withChr _ _ (by omega)

/-- R102: the byte is read at every address of its nametable cell. -/
theorem ppuData_nametable (h : 0x2000 ≤ s.ppu.dataAddr.toNat) (h' : s.ppu.dataAddr.toNat < 0x3F00) :
    (∀ b : BitVec 14, b.toNat < 0x2000 ∨ 0x3F00 ≤ b.toNat → (ppuDataWrite v s).ppuByte b = s.ppuByte b) ∧
      ∀ b : BitVec 14, 0x2000 ≤ b.toNat → b.toNat < 0x3F00 → (ppuDataWrite v s).ppuByte b =
        if b.toNat % 0x400 = s.ppu.dataAddr.toNat % 0x400 ∧ ntTable m b = ntTable m s.ppu.dataAddr then v
        else s.ppuByte b := by
  simp only [State.ppuByte, ppuDataWrite_nametable v hm h h', hm]
  refine ⟨fun b hb => ppuRead_withVram _ _ hb, fun b hb hb' => ?_⟩
  rw [ppuRead_nametable hb hb', ppuRead_nametable hb hb']
  split
  case isTrue hcell =>
    rw [(ntIndex_eq_iff m _ b).mpr hcell]
    exact Memory.read_write_same hwf.ppu.vram _ _
  case isFalse hcell =>
    exact Memory.read_write_other hwf.ppu.vram (fun heq => hcell ((ntIndex_eq_iff m _ b).mp heq)) _

/-- R103: the low six bits are read at every address of the palette entry. -/
theorem ppuData_palette (h : 0x3F00 ≤ s.ppu.dataAddr.toNat) :
    (∀ b : BitVec 14, b.toNat < 0x3F00 → (ppuDataWrite v s).ppuByte b = s.ppuByte b) ∧
      (∀ b : BitVec 14, 0x3F00 ≤ b.toNat → palIndex b = palIndex s.ppu.dataAddr →
        (ppuDataWrite v s).ppuByte b = (v.setWidth 6).setWidth 8) ∧
      ∀ b : BitVec 14, 0x3F00 ≤ b.toNat → palIndex b ≠ palIndex s.ppu.dataAddr →
        (ppuDataWrite v s).ppuByte b = s.ppuByte b := by
  simp only [State.ppuByte, ppuDataWrite_palette v h, hm]
  refine ⟨fun b hb => ppuRead_withPalette _ _ hb, fun b hb hentry => ?_, fun b hb hentry => ?_⟩
  · rw [ppuRead_palette hb, hentry]
    exact congrArg _ (Store.read_write_same 0#6 hwf.ppu.palette _ _)
  · rw [ppuRead_palette hb, ppuRead_palette hb]
    exact congrArg _ (Store.read_write_other 0#6 hwf.ppu.palette hentry _)

end

/-- Settles O38: one lemma for each region of the PPU's address space. -/
theorem ppuMemoryHoldsWrites : Obligations.PpuMemoryHoldsWrites := by
  intro v s m hwf hm a t rd table
  have ha : a = s.ppu.dataAddr := BitVec.eq_of_toNat_eq (by rw [dataAddr_toNat]; exact BitVec.toNat_ofNat _ _)
  have ht : t = ppuDataWrite v s := memWrite_ppuData v s
  rw [ha, ht]
  refine ⟨?v, ppuData_chr v hwf hm, fun h h' => ?nametable, fun h => ?palette⟩
  case v =>
    rw [ppuDataWrite_v]
    exact incrementAddr_v_toNat s.ppu
  case nametable =>
    obtain ⟨hother, hcell⟩ := ppuData_nametable v hwf hm h h'
    exact ⟨(hcell _ h h').trans (if_pos ⟨rfl, rfl⟩), hother, hcell⟩
  case palette =>
    obtain ⟨hbelow, hentry, hother⟩ := ppuData_palette v hwf hm h
    refine ⟨?_, hbelow, fun b hb he => (hentry b hb he).trans (hentry _ h rfl).symm, hother⟩
    refine (congrArg BitVec.toNat (hentry _ h rfl)).trans ?_
    rw [BitVec.toNat_setWidth_of_le (by decide), BitVec.toNat_setWidth]

/-! ### The pixel of a dot -/

theorem fbKey_inj {x y x' y' : Nat} (hx : x < 256) (hy : y < 240) (hx' : x' < 256) (hy' : y' < 240) :
    fbKey x y = fbKey x' y' ↔ x = x' ∧ y = y' := by
  simp only [fbKey, fbWidth, fbHeight]
  omega

/-- The buffers swap at the last dot of a frame alone. -/
theorem advance_back {p : Ppu} (h : ¬(p.scanline = 261 ∧ p.dot = 340)) : p.advance.back = p.back := by
  rw [Ppu.advance, dotsPerLine, linesPerFrame]
  split
  · rw [if_neg (by omega)]
  · rfl

/-- Of the stages of a dot, the pixel stage alone writes the back buffer. -/
theorem ppuStep_back (u : Byte) (m : Option Mapper) {p : Ppu} (h : ¬(p.scanline = 261 ∧ p.dot = 340)) :
    (ppuStep u m p).1.back = p.pixelStage.back := by
  have hkeeps : StageKeeps p (p.beforeFlags u m).flagStage := (beforeFlags_keeps u m p).trans (flagStage_keeps _)
  rw [ppuStep_fst, advance_back (by rwa [hkeeps.scanline, hkeeps.dot]), flagStage_back]
  simp [Ppu.beforeFlags, scrollStage_eq]

theorem pixelStage_visibleDot {p : Ppu} (hlow : 1 ≤ p.dot) (hhigh : p.dot ≤ 256) (hline : p.scanline ≤ 239) :
    p.pixelStage = p.outputPixel (p.dot - 1) p.scanline := by
  rw [Ppu.pixelStage, if_pos (by simp [Ppu.visible, hlow, hhigh, hline])]

theorem pixelStage_otherDot {p : Ppu} (h : p.dot = 0 ∨ 256 < p.dot ∨ 239 < p.scanline) : p.pixelStage = p := by
  refine if_neg fun hpixel => ?_
  simp only [Ppu.visible, Bool.and_eq_true, decide_eq_true_eq] at hpixel
  omega

/-- One pixel of a framebuffer after a write of one pixel. -/
theorem readPixel_write {fb : Store Pixel} (hwf : Store.wf Pixel.black (fbWidth * fbHeight) fb = true) (c : Pixel)
    {x y x' y' : Nat} (hx : x < 256) (hy : y < 240) (hx' : x' < 256) (hy' : y' < 240) :
    readPixel (Store.write Pixel.black fb (fbKey x' y') c) x y = if x = x' ∧ y = y' then c else readPixel fb x y := by
  split
  case isTrue h =>
    obtain ⟨rfl, rfl⟩ := h
    exact Store.read_write_same _ hwf _ _
  case isFalse h => exact Store.read_write_other _ hwf (fun heq => h ((fbKey_inj hx hy hx' hy').mp heq)) _

/-- R423, R427: a visible dot writes its own pixel. -/
theorem ppuStep_visibleDot (u : Byte) (m : Option Mapper) {p : Ppu} (hwf : PpuWf p) {x y : Nat} (hx : x < 256) (hy : y < 240)
    (hlow : 1 ≤ p.dot) (hhigh : p.dot ≤ 256) (hline : p.scanline ≤ 239) :
    readPixel (ppuStep u m p).1.back x y =
      if x + 1 = p.dot ∧ y = p.scanline then .colour (p.colourOf (p.pixelIndex x).1) else readPixel p.back x y := by
  rw [ppuStep_back u m (by omega), pixelStage_visibleDot hlow hhigh hline]
  refine (readPixel_write hwf.back _ hx hy (x' := p.dot - 1) (by omega) (by omega)).trans ?_
  have hcolumn : x = p.dot - 1 ↔ x + 1 = p.dot := by omega
  simp only [hcolumn]
  split
  case isTrue h => rw [← h.1, Nat.add_sub_cancel]
  case isFalse => rfl

/-- R423: with rendering disabled the pixel is the backdrop. -/
theorem colourOf_pixelIndex_disabled {p : Ppu} (h : p.rendering = false) (hgrey : p.mask.getLsbD 0 = false) (x : Nat) :
    p.colourOf (p.pixelIndex x).1 = Store.read 0#6 p.palette 0 := by
  have hindex : p.pixelIndex x = (0#5, false) := by
    rw [Ppu.pixelIndex, h]
    rfl
  rw [hindex, Ppu.colourOf, hgrey]
  rfl

/-- Settles O41: the pixel stage is the only one to write the back buffer, and a visible dot's is `outputPixel`. -/
theorem onePixelPerVisibleDot : Obligations.OnePixelPerVisibleDot := by
  intro u m p x y hwf hx hy hlast q
  exact ⟨ppuStep_visibleDot u m hwf hx hy, fun h => (ppuStep_back u m hlast).trans (by rw [pixelStage_otherDot h]),
    fun h hgrey => colourOf_pixelIndex_disabled h hgrey x⟩

/-! ### The pixels of a frame -/

/-- Every pixel before the PPU's position in its frame has been drawn. -/
def DrawnTo (p : Ppu) : Prop :=
  ∀ x y : Nat, x < 256 → y < 240 → 341 * y + x + 1 < Ppu.position p → ∃ c, readPixel p.back x y = .colour c

/-- A dot that does not end the frame draws its pixel, if it has one, and moves on. -/
theorem ppuStep_drawnTo (u : Byte) (m : Option Mapper) {p : Ppu} (hwf : PpuWf p) (hpos : Ppu.position p < 89341)
    (h : DrawnTo p) : DrawnTo (ppuStep u m p).1 ∧ Ppu.position (ppuStep u m p).1 = Ppu.position p + 1 := by
  have hdot := hwf.dot
  have hline := hwf.scanline
  simp only [Ppu.position, dotsPerLine] at hpos ⊢
  have hlast : ¬(p.scanline = 261 ∧ p.dot = 340) := by omega
  have hmoved : 341 * (ppuStep u m p).1.scanline + (ppuStep u m p).1.dot = 341 * p.scanline + p.dot + 1 := by
    obtain ⟨hin, hend, -, -⟩ := ppuCounters u m p hdot hline
    rcases Nat.lt_or_eq_of_le hdot with hdot | hdot
    · obtain ⟨hd, hs, -, -⟩ := hin hdot
      omega
    · obtain ⟨hd, hs, -, -⟩ := hend hdot (by omega)
      omega
  refine ⟨fun x y hx hy hxy => ?_, hmoved⟩
  simp only [Ppu.position, dotsPerLine, hmoved] at hxy
  by_cases hpixel : 1 ≤ p.dot ∧ p.dot ≤ 256 ∧ p.scanline ≤ 239
  · obtain ⟨hlow, hhigh, hvisible⟩ := hpixel
    rw [ppuStep_visibleDot u m hwf hx hy hlow hhigh hvisible]
    split
    · exact ⟨_, rfl⟩
    · exact h x y hx hy (by simp only [Ppu.position, dotsPerLine]; omega)
  · rw [ppuStep_back u m hlast, pixelStage_otherDot (by omega)]
    exact h x y hx hy (by simp only [Ppu.position, dotsPerLine]; omega)

theorem ppuRun_drawnTo (u : Byte) (m : Option Mapper) (n : Nat) {p : Ppu} (hwf : PpuWf p)
    (hpos : Ppu.position p + n ≤ 89341) (h : DrawnTo p) :
    DrawnTo (ppuRun u m n p).1 ∧ Ppu.position (ppuRun u m n p).1 = Ppu.position p + n := by
  induction n generalizing p with
  | zero => exact ⟨h, rfl⟩
  | succ n ih =>
    obtain ⟨hstep, hmoved⟩ := ppuStep_drawnTo u m hwf (by omega) h
    obtain ⟨hrun, hend⟩ := ih (ppuStep_wf hwf u m) (by omega) hstep
    exact ⟨hrun, hend.trans (by omega)⟩

/-- The last of `n + 1` dots. -/
theorem ppuRun_succ (u : Byte) (m : Option Mapper) (n : Nat) (p : Ppu) :
    (ppuRun u m (n + 1) p).1 = (ppuStep u m (ppuRun u m n p).1).1 := by
  induction n generalizing p with
  | zero => rfl
  | succ n ih => exact ih (ppuStep u m p).1

/-- A frame's dots from its start, the last of which swaps the buffers. -/
theorem ppuRun_frameDrawn (u : Byte) (m : Option Mapper) {p : Ppu} (hwf : PpuWf p) (hstart : Ppu.position p = 0) {n : Nat}
    (hn : n = 89341) {x y : Nat} (hx : x < 256) (hy : y < 240) :
    ∃ c, readPixel (ppuRun u m (n + 1) p).1.front x y = .colour c := by
  obtain ⟨hdrawn, hend⟩ := ppuRun_drawnTo u m n hwf (by omega) fun x y _ _ hxy => absurd hxy (by omega)
  have hlast := ppuRun_wf hwf u m n
  have hdot := hlast.dot
  have hline := hlast.scanline
  rw [ppuRun_succ]
  have hfront : (ppuStep u m (ppuRun u m n p).1).1.front = (ppuRun u m n p).1.back := by
    simp only [Ppu.position, dotsPerLine] at hend hstart
    obtain ⟨-, -, hwrap, -⟩ := ppuCounters u m _ hdot hline
    obtain ⟨-, -, -, hfront, -⟩ := hwrap (by omega) (by omega)
    exact hfront
  rw [hfront]
  exact hdrawn x y hx hy (by omega)

/-- Settles O42: before its last dot a frame's pixels are all behind the PPU's position, and that dot swaps the buffers. -/
theorem frameIsFullyDrawn : Obligations.FrameIsFullyDrawn := by
  intro u m p hwf hdot hline x y hx hy
  exact ppuRun_frameDrawn u m hwf (by simp [Ppu.position, hdot, hline]) rfl hx hy

/-! ### Sprite evaluation -/

/-- OAM sprite `i` is in range on scanline `s`. -/
def Ppu.spriteInRange (p : Ppu) (s i : Nat) : Bool :=
  decide ((p.oam.read (4 * i)).toNat ≤ s ∧ s - (p.oam.read (4 * i)).toNat < if p.ctrl.getLsbD 5 then 16 else 8)

theorem spriteRowOn_eq (p : Ppu) (s i : Nat) : p.spriteRowOn s i =
    if p.spriteInRange s i then some (s - (p.oam.read (4 * i)).toNat) else none := by
  simp only [Ppu.spriteRowOn, Ppu.spriteInRange, decide_eq_true_eq, Ppu.spriteHeight]
  rfl

section
variable (read : BitVec 14 → Byte) (s : Nat) (p : Ppu)

/-- The scan of `k` sprites from `i` on counts those in range and puts them, in order, after the `n` slots already filled. -/
theorem scanOam_eq (k i n : Nat) (slots : Vector SpriteSlot 8) :
    (p.scanOam read s k i n slots).1 = n + ((List.range' i k).filter (p.spriteInRange s)).length ∧
      (∀ j < n, (p.scanOam read s k i n slots).2[j]? = slots[j]?) ∧
      ∀ j idx, n + j < 8 → ((List.range' i k).filter (p.spriteInRange s))[j]? = some idx →
        (p.scanOam read s k i n slots).2[n + j]? =
          some (p.spriteSlot read idx (s - (p.oam.read (4 * idx)).toNat)) := by
  induction k generalizing i n slots with
  | zero => exact ⟨rfl, fun _ _ => rfl, nofun⟩
  | succ k ih =>
    rw [Ppu.scanOam, spriteRowOn_eq, List.range'_succ]
    cases hrange : p.spriteInRange s i with
    | false =>
      rw [List.filter_cons_of_neg (ne_true_of_eq_false hrange)]
      exact ih (i + 1) n slots
    | true =>
      rw [List.filter_cons_of_pos hrange]
      obtain ⟨hcount, hkept, hfilled⟩ := ih (i + 1) (n + 1)
        (slots.setIfInBounds n (p.spriteSlot read i (s - (p.oam.read (4 * i)).toNat)))
      refine ⟨hcount.trans (by rw [List.length_cons]; omega), fun j hj => ?_, fun j idx hj hidx => ?_⟩
      · exact (hkept j (by omega)).trans (Vector.getElem?_setIfInBounds_ne (by omega))
      · cases j with
        | zero =>
          obtain rfl : i = idx := Option.some.inj hidx
          exact (hkept n (by omega)).trans (Vector.getElem?_setIfInBounds_self_of_lt (by omega))
        | succ j =>
          have hslot := hfilled j idx (by omega) hidx
          rwa [Nat.add_assoc, Nat.add_comm 1] at hslot

end

/-- Settles O43: `scanOam_eq` for the 64 sprites of OAM and no slot filled yet. -/
theorem spriteEvaluation : Obligations.SpriteEvaluation := by
  intro read s p row inRange q
  obtain ⟨hcount, -, hfilled⟩ := scanOam_eq read s p 64 0 0 p.spr
  have hrange : (List.range' 0 64).filter (p.spriteInRange s) = inRange := by
    rw [← List.range_eq_range']
    rfl
  rw [hrange, Nat.zero_add] at hcount
  rw [hrange] at hfilled
  refine ⟨?_, ?_, fun k i hk hi => ?_⟩
  · show (if 8 < (p.scanOam read s 64 0 0 p.spr).1 then 8 else (p.scanOam read s 64 0 0 p.spr).1) = _
    rw [hcount]
    split <;> omega
  · show (p.spriteOverflow || decide (8 < (p.scanOam read s 64 0 0 p.spr).1)) = _
    rw [hcount]
  · have hslot := hfilled k i (by omega) hi
    rw [Nat.zero_add, ← Vector.getElem?_toList] at hslot
    exact hslot

end Sys2Proof.Machine
end
